-- ==== Sys2Proof/Word.lean ====
section
/-! DEFINITION. The word types of EFX: bit patterns only (spec/00_scope.md R8, R10; spec/30_encoding.md R101, R103). -/

namespace Sys2Proof

/-- A value of the number format `F` of R10, IEEE 754 binary32, held as its bit pattern. -/
abbrev F := BitVec 32

/-- A 32-bit word on the host port (R71). -/
abbrev Data := BitVec 32

/-- A word address of the host space, `0x000` to `0xFFF` (R70). -/
abbrev Addr := BitVec 12

/-- A 16-bit two's complement sample (R10, R54). -/
abbrev Sample := BitVec 16

/-- A transaction word of format `BUS` (R101). -/
abbrev TxnWord := BitVec 45

/-- A micro-operation code of format `UOP` (R103). -/
abbrev UopCode := BitVec 4

/-- One byte of an encoding. -/
abbrev Byte := BitVec 8

end Sys2Proof
end

