-- ==== Sys2Proof/Config.lean ====
section
/-! DEFINITION. What an implementation fixes (the record `CFG` of spec/00_scope.md R6) and the free
values, opaque constants of which nothing is known. -/

namespace Sys2Proof

/-- The operations whose result can be a NaN (R11, R18). -/
inductive NumOp where
  | add
  | sub
  | mul
  | div
  | sin
  deriving DecidableEq, Repr

/-- FREE VALUE (log entry 8). Sign and low 22 fraction bits of the quiet NaN that an operation gives
for its operands: "some quiet NaN, which one is not specified" (R11). -/
opaque Config.freeNaN : NumOp → F → F → BitVec 23

/-- FREE VALUE (log entry 16). `fadd`, `fsub`, `fmul`, `fdiv` of a numerics record other than the default, by
number; Machine/Num.lean lays the laws of R21 over these six. -/
opaque Config.freeBinary : Nat → NumOp → F → F → F

/-- FREE VALUE (log entry 16). `i2f` of another numerics record. -/
opaque Config.freeI2f : Nat → Int → F

/-- FREE VALUE (log entry 16). `u2f` of another numerics record. -/
opaque Config.freeU2f : Nat → Nat → F

/-- FREE VALUE (log entry 16). `f2i` of another numerics record. -/
opaque Config.freeF2i : Nat → F → BitVec 32

/-- FREE VALUE (log entry 16). `oor` of another numerics record. -/
opaque Config.freeOor : Nat → F → Bool

/-- FREE VALUE (log entry 16). `fge` of another numerics record. -/
opaque Config.freeFge : Nat → F → F → Bool

/-- FREE VALUE (log entry 16). The correctly rounded sine of another numerics record. -/
opaque Config.freeRoundedSine : Nat → F → F

/-- FREE VALUE (log entry 9). A raw sine other than the default, by number; `SIN` lays the laws of R18
over it. -/
opaque Config.freeSine : Nat → F → F

/-- FREE VALUE (log entry 11). The bits behind `PHI_C1_RESET`, which R6 leaves OPEN. -/
opaque Config.openPhiC1 : BitVec 32

/-- FREE VALUE (log entry 11). The bits behind `PHI_C2_RESET`, which R6 leaves OPEN. -/
opaque Config.openPhiC2 : BitVec 32

/-- Any bit pattern made into a value of `F` in [0, 2π): the patterns below `TWO_PI` = `0x40C90FDB`
(R17) are the values from +0.0 up, and −0.0 equals 0. Every value of the interval is its own image. -/
def Config.intoTurn (x : BitVec 32) : F :=
  if x = 0x80000000#32 then x else x % 0x40C90FDB#32

/-- The field `SIN` of the numerics record (R18): the correctly rounded sine by default, or another
function of its operand with the laws of R18. -/
inductive SinChoice where
  | correctlyRounded
  | other (id : Nat)
  deriving DecidableEq, Repr

/-- The parameter `NUM` (R6, R21): IEEE 754 binary32 by default, or another numerics record with the laws of
R21, whose values are named by 32-bit patterns (log entry 16). -/
inductive NumChoice where
  | binary32
  | other (id : Nat)
  deriving DecidableEq, Repr

/-- The parameter record of R6. -/
structure Cfg where
  /-- `SR`, frames per second. -/
  sr : Nat
  /-- `N[0]` to `N[9]`, the delay-line capacities. -/
  cap : Vector Nat 10
  /-- `BLOCK_MAX`. -/
  blockMax : Nat
  phiC1Reset : F
  phiC2Reset : F
  rstGvol : F
  rstRvLevel : F
  rstRvFb : F
  rstRvDamp : F
  rstChLevel : F
  rstChDepth : F
  rstChSpeed : F
  rstStWidth : F
  rstLimThresh : F
  rstLimEn : Bool
  rstToggle : BitVec 6
  num : NumChoice
  sin : SinChoice
  deriving DecidableEq, Repr

/-- `N[d]`. -/
def Cfg.n (c : Cfg) (d : Fin 10) : Nat := c.cap[d.val]

/-- The defaults of R6; the two open phases are free values. -/
def Cfg.default : Cfg where
  sr := 44100
  cap := #v[11025, 2205, 4410, 6615, 1764, 3528, 441, 661, 882, 220]
  blockMax := 1024
  phiC1Reset := Config.intoTurn Config.openPhiC1
  phiC2Reset := Config.intoTurn Config.openPhiC2
  rstGvol := 0x3F800000#32
  rstRvLevel := 0x3E4CCCCD#32
  rstRvFb := 0x3E99999A#32
  rstRvDamp := 0x3F000000#32
  rstChLevel := 0x3E19999A#32
  rstChDepth := 0x3E99999A#32
  rstChSpeed := 0x3F800000#32
  rstStWidth := 0x3F000000#32
  rstLimThresh := 0x46FFFE00#32
  rstLimEn := true
  rstToggle := 0#6
  num := .binary32
  sin := .correctlyRounded

end Sys2Proof
end

