-- ==== Sys2Proof/Machine/Numerics.lean ====
section
/-! DEFINITION. The number format `F` = IEEE 754 binary32, the default of `NUM`, and its operations
(spec/00_scope.md R10 to R17, R19): operands are turned into exact integers, the exact result is computed, and one rounding
narrows it at the end.

Every finite value of `F` is a whole number of units of `2^-149`, the smallest positive value. -/

namespace Sys2Proof.Machine

/-! ### Fields (R10) -/

/-- The sign bit, bit 31. -/
def signBit (x : F) : Bool := decide (2 ^ 31 ≤ x.toNat)

/-- The exponent field, bits 30 to 23. -/
def expField (x : F) : Nat := x.toNat / 2 ^ 23 % 2 ^ 8

/-- The fraction field, bits 22 to 0. -/
def fracField (x : F) : Nat := x.toNat % 2 ^ 23

def isNaN (x : F) : Bool := expField x == 255 && fracField x != 0

def isInf (x : F) : Bool := expField x == 255 && fracField x == 0

def isFinite (x : F) : Bool := expField x != 255

/-- One of the two zeros. -/
def isZero (x : F) : Bool := x.toNat % 2 ^ 31 == 0

/-- The magnitude in units of `2^-149`. An infinity counts `2^277`, above every finite value, so that
comparisons need no case for it. -/
def magUnits (x : F) : Nat :=
  if expField x = 0 then fracField x else (2 ^ 23 + fracField x) * 2 ^ (expField x - 1)

/-- The signed value in units of `2^-149`. -/
def units (x : F) : Int := if signBit x then -(magUnits x : Int) else magUnits x

/-- 1.0 in units. -/
def oneUnits : Nat := 2 ^ 149

/-! ### Rounding (R11: to nearest, ties to even) -/

/-- The value with a sign and a magnitude pattern of 31 bits. -/
def withSign (neg : Bool) (mag : Nat) : F :=
  BitVec.ofNat 32 (if neg then 2 ^ 31 + mag else mag)

/-- `n / d` to the nearest integer, ties to even. -/
def nearestEven (n d : Nat) : Nat :=
  let q := n / d
  let r := n % d
  if d < 2 * r ∨ (2 * r = d ∧ q % 2 = 1) then q + 1 else q

/-- The magnitude pattern nearest to `n / d` units. `k` is how far the last kept bit stands above
`2^-149`: 24 significant bits above the subnormals, gradual underflow below. The kept integer, added to
`k * 2^23`, carries into the exponent field by itself; from `0x7F800000` up the result is an infinity. -/
def roundMag (n d : Nat) : Nat :=
  let k := Nat.log2 (n / d) - 23
  min (k * 2 ^ 23 + nearestEven n (d * 2 ^ k)) 0x7F800000

/-- `n / d` units with a sign, rounded once to `F`. -/
def roundUnits (neg : Bool) (n d : Nat) : F := withSign neg (roundMag n d)

/-- "Some quiet NaN" (R11): sign and payload are a free value (log entry 8). -/
def quietNaN (op : NumOp) (a b : F) : F :=
  let p := (Config.freeNaN op a b).toNat
  BitVec.ofNat 32 (p / 2 ^ 22 * 2 ^ 31 + 0x7FC00000 + p % 2 ^ 22)

/-- `±inf`. -/
def infinity (neg : Bool) : F := withSign neg 0x7F800000

/-! ### The four operations (R11) -/

/-- `-x`: the other sign. -/
def negate (x : F) : F := withSign (!signBit x) (x.toNat % 2 ^ 31)

/-- The sum of two values that are no NaN; `op a b` names the operation for a NaN result. -/
def addNumbers (op : NumOp) (a b x y : F) : F :=
  if isInf x then (if isInf y && signBit x != signBit y then quietNaN op a b else x)
  else if isInf y then y
  else
    let z := units x + units y
    if z = 0 then withSign (signBit x && signBit y) 0 else roundUnits (decide (z < 0)) z.natAbs 1

/-- `fadd` (R11). -/
def fadd (a b : F) : F :=
  if isNaN a || isNaN b then quietNaN .add a b else addNumbers .add a b a b

/-- `fsub` (R11): the sum with the second operand negated. -/
def fsub (a b : F) : F :=
  if isNaN a || isNaN b then quietNaN .sub a b else addNumbers .sub a b a (negate b)

/-- `fmul` (R11). -/
def fmul (a b : F) : F :=
  let neg := signBit a != signBit b
  if isNaN a || isNaN b then quietNaN .mul a b
  else if isInf a || isInf b then
    (if isZero a || isZero b then quietNaN .mul a b else infinity neg)
  else roundUnits neg (magUnits a * magUnits b) oneUnits

/-- `fdiv` (R11). A finite value other than zero over a zero is an infinity and a finite value over an
infinity a zero, as IEEE 754 has it (log entry 15). -/
def fdiv (a b : F) : F :=
  let neg := signBit a != signBit b
  if isNaN a || isNaN b then quietNaN .div a b
  else if isInf a then (if isInf b then quietNaN .div a b else infinity neg)
  else if isInf b then withSign neg 0
  else if isZero b then (if isZero a then quietNaN .div a b else infinity neg)
  else roundUnits neg (magUnits a * oneUnits) (magUnits b)

/-! ### Integers (R12, R13, R14, R19) -/

/-- `i2f` (R12). -/
def i2f (i : Int) : F := roundUnits (decide (i < 0)) (i.natAbs * oneUnits) 1

/-- `u2f` (R12). -/
def u2f (u : Nat) : F := roundUnits false (u * oneUnits) 1

/-- `f2i` (R13): toward zero, saturating at 32 signed bits, 0 for a NaN. -/
def f2i (x : F) : BitVec 32 :=
  let t := magUnits x / oneUnits
  if isNaN x then 0#32
  else if signBit x then (if 2 ^ 31 ≤ t then 0x80000000#32 else BitVec.ofInt 32 (-(t : Int)))
  else if 2 ^ 31 ≤ t then 0x7FFFFFFF#32 else BitVec.ofNat 32 t

/-- `sat16` (R14) of a signed 32-bit integer. -/
def sat16 (i : BitVec 32) : Sample :=
  if 32767 < i.toInt then 0x7FFF#16 else if i.toInt < -32768 then 0x8000#16 else BitVec.ofInt 16 i.toInt

/-- `|i|` of a signed 32-bit integer as an unsigned 32-bit number (R19); `|-2^31| = 2^31`. -/
def absInt (i : BitVec 32) : BitVec 32 := BitVec.ofNat 32 i.toInt.natAbs

/-- `max` of unsigned 32-bit numbers (R215). -/
def umax (a b : BitVec 32) : BitVec 32 := if a ≤ b then b else a

/-! ### Comparisons (R15, R16) -/

/-- `a ≤ b` on `F`: false when either is a NaN, and the two zeros are equal. -/
def fle (a b : F) : Bool := !isNaN a && !isNaN b && decide (units a ≤ units b)

/-- `fge` (R16). -/
def fge (a b : F) : Bool := fle b a

/-- `oor` (R15): not within [−32768.0, 32767.0]. -/
def oor (x : F) : Bool := !(fle 0xC7000000#32 x && fle x 0x46FFFE00#32)

/-! ### Constants (R17) -/

def gEcho : F := 0x3E99999A#32
def gRv1 : F := 0x3F000000#32
def gRv2 : F := 0x3ECCCCCD#32
def gRv3 : F := 0x3E99999A#32
def gRv4 : F := 0x3E99999A#32
def gRv5 : F := 0x3E19999A#32
def gRvMix : F := 0x3E4CCCCD#32
def gCh1 : F := 0x3ECCCCCD#32
def gCh2 : F := 0x3ECCCCCD#32
def gCh3 : F := 0x3E99999A#32
def gChMix : F := 0x3E19999A#32
def chBias : F := 0x3F000000#32
def vibDepth : F := 0x3CF5C28F#32
def trmBias : F := 0x3F59999A#32
def trmDepth : F := 0x3D99999A#32
def gSt : F := 0x3F000000#32
def half : F := 0x3F000000#32
def one : F := 0x3F800000#32
def ceiling : F := 0x46FFFE00#32
def twoPi : F := 0x40C90FDB#32
def fLfo : F := 0x40400000#32

end Sys2Proof.Machine
end

