-- ==== Sys2Proof/Machine/Sine.lean ====
section
/-! DEFINITION. The sine of spec/00_scope.md R18. The default, "the correctly rounded sine", is computed
in fixed point with 512 fraction bits: reduction by a quarter turn, then the Taylor series of sine or
cosine, then one rounding to `F` (log entry 9). -/

namespace Sys2Proof.Machine

/-- How many fraction bits the fixed-point numbers of this file have. -/
def sineBits : Nat := 512

/-- 1 in fixed point. -/
def fixedOne : Nat := 2 ^ sineBits

/-- π in fixed point, truncated. -/
def fixedPi : Nat :=
  0x3243F6A8885A308D313198A2E03707344A4093822299F31D0082EFA98EC4E6C89452821E638D01377BE5466CF34E90C6CC0AC29B7C97C50DD3F84D5B5B5470917

/-- A quarter turn, π/2. -/
def quarterTurn : Nat := fixedPi / 2

/-- `1 - rr/c(k) * (1 - rr/c(k+1) * (1 - ...))`, `fuel` factors deep. -/
def alternating (c : Nat → Nat) (rr : Nat) : Nat → Nat → Nat
  | 0, _ => fixedOne
  | fuel + 1, k => fixedOne - rr * alternating c rr fuel (k + 1) / fixedOne / c k

/-- The sine of `r` in [0, π/2]. -/
def fixedSin (r : Nat) : Nat :=
  r * alternating (fun k => 2 * k * (2 * k + 1)) (r * r / fixedOne) 64 1 / fixedOne

/-- The cosine of `r` in [0, π/2]. -/
def fixedCos (r : Nat) : Nat := alternating (fun k => (2 * k - 1) * (2 * k)) (r * r / fixedOne) 64 1

/-- The sine of a finite `x`, rounded to nearest, ties to even. The sine is odd, so it is taken of the
magnitude; a zero keeps its sign (log entry 10). -/
def roundedSine (x : F) : F :=
  let m := magUnits x * 2 ^ (sineBits - 149)
  let q := m / quarterTurn
  let r := m % quarterTurn
  let v := if q % 2 = 0 then fixedSin r else fixedCos r
  roundUnits (signBit x != decide (2 ≤ q % 4)) v (2 ^ (sineBits - 149))

/-- A value held to magnitude at most 1. -/
def clampUnit (y : F) : F := withSign (signBit y) (min (y.toNat % 2 ^ 31) 0x3F800000)

/-- A function of its operand made to obey the laws of R18: a NaN for a NaN or an infinity, +0.0 at
+0.0, magnitude at most 1 elsewhere. A function that obeys them already is left as it is, but for
which NaN it gives. -/
def lawfulSine (raw : F → F) (x : F) : F :=
  if isFinite x then (if x = 0#32 then 0#32 else clampUnit (raw x)) else quietNaN .sin x x

/-- `SIN` of the default record (R18). -/
def sine : SinChoice → F → F
  | .correctlyRounded, x => lawfulSine roundedSine x
  | .other id, x => lawfulSine (Config.freeSine id) x

end Sys2Proof.Machine
end

