-- ==== Sys2Proof/Machine/Num.lean ====
section
/-! DEFINITION. The numerics record `NUM` as a parameter (spec/00_scope.md R6, R21): each operation of R11 to
R16 and R18 for the record that `CFG` chooses. The default is binary32 (Numerics.lean, Sine.lean). Another
record is free values with the laws of R21 and R18 laid over them, and a function that obeys the laws
already is left as it is (log entry 16): a value is named by a 32-bit pattern, as R39 and R46 have it, and
the values the laws speak of, the zeros, 1.0, 0.5 and the 17-bit integers and their halves, stand at their
patterns of binary32. -/

namespace Sys2Proof.Machine

/-! ### The values that the laws of R21 speak of -/

/-- A signed 17-bit integer. -/
def isShort (i : Int) : Bool := decide (-65536 ≤ i) && decide (i < 65536)

/-- The pattern of a signed 17-bit integer. -/
def isShortValue (x : F) : Bool := isShort (f2i x).toInt && i2f (f2i x).toInt == x

/-- A value made a zero. -/
def asZero (x : F) : F := if isZero x then x else 0#32

/-- A value made a NaN. -/
def asNaN (x : F) : F := if isNaN x then x else quietNaN .sin x x

/-! ### The operations of the record -/

/-- `fadd`. Law of R21: of two zeros it is a zero. -/
def numAdd (n : NumChoice) (a b : F) : F :=
  match n with
  | .binary32 => fadd a b
  | .other id =>
    let r := Config.freeBinary id .add a b
    if isZero a && isZero b then asZero r else r

/-- `fsub`. Of two zeros it is a zero, which R11 gives and S6 of spec/95_test_vectors.md uses. -/
def numSub (n : NumChoice) (a b : F) : F :=
  match n with
  | .binary32 => fsub a b
  | .other id =>
    let r := Config.freeBinary id .sub a b
    if isZero a && isZero b then asZero r else r

/-- `fmul`. Laws of R21: by 1.0 it is the operand; a zero by a finite value is a zero; the half of a 17-bit
integer is exact. -/
def numMul (n : NumChoice) (a b : F) : F :=
  match n with
  | .binary32 => fmul a b
  | .other id =>
    let r := Config.freeBinary id .mul a b
    if b = one then a
    else if (isZero a && isFinite b) || (isZero b && isFinite a) then asZero r
    else if b = half && isShortValue a then fmul a b
    else r

/-- `fdiv`. -/
def numDiv (n : NumChoice) (a b : F) : F :=
  match n with
  | .binary32 => fdiv a b
  | .other id => Config.freeBinary id .div a b

/-- `i2f`. Law of R21: exact on 17-bit integers. -/
def numI2f (n : NumChoice) (i : Int) : F :=
  match n with
  | .binary32 => i2f i
  | .other id => if isShort i then i2f i else Config.freeI2f id i

/-- `u2f`, "the same for an unsigned integer" (R12). -/
def numU2f (n : NumChoice) (u : Nat) : F :=
  match n with
  | .binary32 => u2f u
  | .other id => if isShort u then u2f u else Config.freeU2f id u

/-- `f2i`. Laws of R21: 0 of a zero, and the integer itself where `i2f` is exact (R13). -/
def numF2i (n : NumChoice) (x : F) : BitVec 32 :=
  match n with
  | .binary32 => f2i x
  | .other id => if isZero x || isShortValue x then f2i x else Config.freeF2i id x

/-- `oor`. By R15 its result is fixed for the zeros and for 17-bit integers. -/
def numOor (n : NumChoice) (x : F) : Bool :=
  match n with
  | .binary32 => oor x
  | .other id => if isZero x || isShortValue x then oor x else Config.freeOor id x

/-- `fge`. By R16 its result is fixed between 17-bit integers. -/
def numGe (n : NumChoice) (a b : F) : Bool :=
  match n with
  | .binary32 => fge a b
  | .other id => if isShortValue a && isShortValue b then fge a b else Config.freeFge id a b

/-- `SIN` (R18): of another record, a free function with the laws of R18, its range taken by the record's own
comparison. -/
def numSin (n : NumChoice) (c : SinChoice) (x : F) : F :=
  match n with
  | .binary32 => sine c x
  | .other id =>
    let y := match c with
      | .correctlyRounded => Config.freeRoundedSine id x
      | .other k => Config.freeSine k x
    if isFinite x then
      (if x = 0#32 then 0#32
        else if numGe n y (numI2f n (-1)) && numGe n one y then y else 0#32)
    else asNaN y

end Sys2Proof.Machine

namespace Sys2Proof

/-- A value of `F` in [0, 2π), as R6 asks of the two open phases. -/
def Cfg.phaseStart (c : Cfg) (x : F) : Bool :=
  Machine.numGe c.num x 0#32 && !Machine.numGe c.num x Machine.twoPi

/-- The constraints of the table of R6; those on `NUM` and `SIN`, the laws of R21 and R18, hold of every
choice. -/
abbrev Cfg.wf (c : Cfg) : Prop :=
  1 ≤ c.sr ∧ (∀ d : Fin 10, 1 ≤ c.n d) ∧ 1 ≤ c.blockMax ∧ c.blockMax ≤ 1024 ∧
    c.phaseStart c.phiC1Reset = true ∧ c.phaseStart c.phiC2Reset = true

end Sys2Proof
end

