-- ==== Sys2Proof/Syntax.lean ====
section
/-! DEFINITION. The operations of EFX: one constructor per row of spec/opcode_table.json
(spec/30_encoding.md R104, R107, R117). -/

namespace Sys2Proof

/-- The two host operations, their named forms, and the ten micro-operations of the engine. -/
inductive Instr where
  /-- `WR addr, wdata` (R231), for the words that no named form below stands for. -/
  | wr (addr : Addr) (wdata : Data)
  /-- `RD addr` (R232), for the addresses that no named form below stands for. -/
  | rd (addr : Addr)
  /-- `START` = `WR CMD, 1` (R233). -/
  | start
  /-- `ACK` = `WR STATUS, 2` (R234). -/
  | ack
  /-- `CLRD mask` = `WR DIAG, mask` (R234). -/
  | clrd (mask : Data)
  /-- `SETIE b` = `WR IE, b` (R234). -/
  | setie (data : Data)
  /-- `SETN n` = `WR NFRAMES, n` (R234). -/
  | setn (data : Data)
  /-- `SETT mask` = `WR TOGGLE, mask` (R234). -/
  | sett (data : Data)
  /-- `SETP GVOL, data`. -/
  | setpGvol (data : Data)
  /-- `SETP RV_LEVEL, data`. -/
  | setpRvLevel (data : Data)
  /-- `SETP RV_FB, data`. -/
  | setpRvFb (data : Data)
  /-- `SETP RV_DAMP, data`. -/
  | setpRvDamp (data : Data)
  /-- `SETP CH_LEVEL, data`. -/
  | setpChLevel (data : Data)
  /-- `SETP CH_DEPTH, data`. -/
  | setpChDepth (data : Data)
  /-- `SETP CH_SPEED, data`. -/
  | setpChSpeed (data : Data)
  /-- `SETP ST_WIDTH, data`. -/
  | setpStWidth (data : Data)
  /-- `SETP LIM_THRESH, data`. -/
  | setpLimThresh (data : Data)
  /-- `SETP LIM_EN, data`. -/
  | setpLimEn (data : Data)
  /-- `LDF k, l, r` = `WR BLK[k], {r, l}` (R234). -/
  | ldf (k : BitVec 10) (l r : Sample)
  /-- `RDF k` = `RD BLK[k]` (R234). -/
  | rdf (k : BitVec 10)
  /-- `RDS` = `RD STATUS` (R234). -/
  | rds
  /-- Code 0, frame entry (R150). -/
  | load
  /-- Code 1, global volume (R151). -/
  | vol
  /-- Code 2, one-tap echo (R160). -/
  | echo
  /-- Code 3, five-tap reverb with feedback (R165). -/
  | reverb
  /-- Code 4, three-voice chorus (R180). -/
  | chorus
  /-- Code 5, vibrato modulator (R190). -/
  | vibrato
  /-- Code 6, tremolo modulator (R195). -/
  | tremolo
  /-- Code 7, stereo widener (R200). -/
  | stereo
  /-- Code 8, quantise, store to `WBUF`, track the peak, next frame (R215). -/
  | store
  /-- Code 9, rescale, narrow, write `BLK`, finish the block (R220). -/
  | norm
  deriving DecidableEq, Repr

end Sys2Proof
end

