-- ==== Sys2Proof/WellFormed.lean ====
section
/-! DEFINITION. Which terms of `Instr` are the reading of some word: a `WR` or `RD` word that has a
named form of its own (spec/30_encoding.md R117) is written as that form and not as `wr` or `rd`. -/

namespace Sys2Proof

/-- The address lies in the window `0x400` to `0x7FF` of the rows `LDF` and `RDF`. -/
def inFrameWindow (a : Addr) : Bool := a.extractLsb' 10 2 == 0b01#2

/-- `wr a d` is the row `START` (R117: `WR CMD, 1`). -/
def isStartWrite (a : Addr) (d : Data) : Bool := a == 0x000#12 && d == 1#32

/-- `wr a d` is the row `ACK` (R117: `WR STATUS, 2`). -/
def isAckWrite (a : Addr) (d : Data) : Bool := a == 0x001#12 && d == 2#32

/-- The addresses `IE`, `NFRAMES`, `TOGGLE`, `DIAG`, every write to which has a name of its own. -/
def isControlWrite (a : Addr) : Bool :=
  a == 0x002#12 || a == 0x003#12 || a == 0x004#12 || a == 0x005#12

/-- The ten parameter registers `0x010` to `0x019`, every write to which is a `SETP`. -/
def isParamWrite (a : Addr) : Bool := decide (0x010#12 ≤ a) && decide (a ≤ 0x019#12)

/-- `rd a` is the row `RDS` (R117: `RD STATUS`). -/
def isStatusRead (a : Addr) : Bool := a == 0x001#12

/-- The term is the one reading of its word. Micro-operations and named forms always are; a plain
`wr` or `rd` is when no named form stands for its word. -/
def wellFormed : Instr → Bool
  | .wr a d =>
    !isStartWrite a d && !isAckWrite a d && !isControlWrite a && !isParamWrite a && !inFrameWindow a
  | .rd a => !isStatusRead a && !inFrameWindow a
  | .start => true
  | .ack => true
  | .clrd _ => true
  | .setie _ => true
  | .setn _ => true
  | .sett _ => true
  | .setpGvol _ => true
  | .setpRvLevel _ => true
  | .setpRvFb _ => true
  | .setpRvDamp _ => true
  | .setpChLevel _ => true
  | .setpChDepth _ => true
  | .setpChSpeed _ => true
  | .setpStWidth _ => true
  | .setpLimThresh _ => true
  | .setpLimEn _ => true
  | .ldf _ _ _ => true
  | .rdf _ => true
  | .rds => true
  | .load => true
  | .vol => true
  | .echo => true
  | .reverb => true
  | .chorus => true
  | .vibrato => true
  | .tremolo => true
  | .stereo => true
  | .store => true
  | .norm => true

/-- `wellFormed`, as the proposition statements use. -/
abbrev WellFormed (i : Instr) : Prop := wellFormed i = true

end Sys2Proof
end

