-- ==== Sys2Proof/Decode.lean ====
section
/-! DEFINITION. Reading and writing the two encodings of spec/30_encoding.md R100 to R113: the 45-bit
transaction word (format `BUS`) and the 4-bit micro-operation code (format `UOP`).

As bytes (DESIGN CHOICE, log entry 5): a transaction word is six bytes, least significant first, whose
top three bits are zero (R101 writes it as twelve hexadecimal digits); a micro-operation code is one
byte whose top four bits are zero. -/

namespace Sys2Proof

/-- Why a list of bytes is no operation of EFX. -/
inductive DecodeError where
  /-- Neither one byte nor six. -/
  | badLength (n : Nat)
  /-- A transaction word with one of bits 47 to 45 set (R101). -/
  | reservedTxnBits
  /-- A micro-operation byte with one of bits 7 to 4 set (R103). -/
  | reservedUopBits
  /-- One of the codes 10 to 15, which name no micro-operation (R112). -/
  | unnamedUop (code : UopCode)
  deriving DecidableEq, Repr

/-- A write transaction (R106, R117): the named form of its address, else `WR`. -/
def decodeWrite (a : Addr) (d : Data) : Instr :=
  if a = 0x000#12 then (if d = 1#32 then .start else .wr a d)
  else if a = 0x001#12 then (if d = 2#32 then .ack else .wr a d)
  else if a = 0x002#12 then .setie d
  else if a = 0x003#12 then .setn d
  else if a = 0x004#12 then .sett d
  else if a = 0x005#12 then .clrd d
  else if a = 0x010#12 then .setpGvol d
  else if a = 0x011#12 then .setpRvLevel d
  else if a = 0x012#12 then .setpRvFb d
  else if a = 0x013#12 then .setpRvDamp d
  else if a = 0x014#12 then .setpChLevel d
  else if a = 0x015#12 then .setpChDepth d
  else if a = 0x016#12 then .setpChSpeed d
  else if a = 0x017#12 then .setpStWidth d
  else if a = 0x018#12 then .setpLimThresh d
  else if a = 0x019#12 then .setpLimEn d
  else if inFrameWindow a then
    .ldf (a.extractLsb' 0 10) (d.extractLsb' 0 16) (d.extractLsb' 16 16)
  else .wr a d

/-- A read transaction (R106, R117); its `wdata` is ignored (R101). -/
def decodeRead (a : Addr) : Instr :=
  if a = 0x001#12 then .rds
  else if inFrameWindow a then .rdf (a.extractLsb' 0 10)
  else .rd a

/-- Every one of the `2^45` transaction words is a `WR` or an `RD` (R106). -/
def decodeTxn (w : TxnWord) : Instr :=
  if w.getLsbD 44 then decodeWrite (w.extractLsb' 32 12) (w.extractLsb' 0 32)
  else decodeRead (w.extractLsb' 32 12)

/-- The micro-operation of a code (R104); codes 10 to 15 name none (R112). -/
def decodeUop (c : UopCode) : Option Instr :=
  if c = 0#4 then some .load
  else if c = 1#4 then some .vol
  else if c = 2#4 then some .echo
  else if c = 3#4 then some .reverb
  else if c = 4#4 then some .chorus
  else if c = 5#4 then some .vibrato
  else if c = 6#4 then some .tremolo
  else if c = 7#4 then some .stereo
  else if c = 8#4 then some .store
  else if c = 9#4 then some .norm
  else none

/-- The operation a list of bytes encodes, or why there is none. -/
def decode : List Byte → Except DecodeError Instr
  | [b] =>
    if b.extractLsb' 4 4 = 0#4 then
      match decodeUop (b.extractLsb' 0 4) with
      | some i => .ok i
      | none => .error (.unnamedUop (b.extractLsb' 0 4))
    else .error .reservedUopBits
  | [b0, b1, b2, b3, b4, b5] =>
    if b5.extractLsb' 5 3 = 0#3 then
      .ok (decodeTxn (b5.extractLsb' 0 5 ++ b4 ++ b3 ++ b2 ++ b1 ++ b0))
    else .error .reservedTxnBits
  | bs => .error (.badLength bs.length)

/-- The write transaction `(1, a, d)` as a word (R101). -/
def writeWord (a : Addr) (d : Data) : TxnWord := 1#1 ++ a ++ d

/-- The read transaction `(0, a, 0)` as a word (R101: an assembler emits 0 for the ignored bits). -/
def readWord (a : Addr) : TxnWord := 0#1 ++ a ++ 0#32

/-- The address of `BLK[k]` in the host space (R54). -/
def frameAddr (k : BitVec 10) : Addr := 0b01#2 ++ k

/-- The frame word of a left and a right sample (R54, R105). -/
def packFrame (l r : Sample) : Data := r ++ l

/-- An operation of EFX in its own format (R100). -/
inductive Encoded where
  | txn (w : TxnWord)
  | uop (c : UopCode)
  deriving DecidableEq, Repr

/-- The word of an operation: the transaction word of R117 or the code of R104. -/
def encodeWord : Instr → Encoded
  | .wr a d => .txn (writeWord a d)
  | .rd a => .txn (readWord a)
  | .start => .txn (writeWord 0x000#12 1#32)
  | .ack => .txn (writeWord 0x001#12 2#32)
  | .clrd m => .txn (writeWord 0x005#12 m)
  | .setie d => .txn (writeWord 0x002#12 d)
  | .setn d => .txn (writeWord 0x003#12 d)
  | .sett d => .txn (writeWord 0x004#12 d)
  | .setpGvol d => .txn (writeWord 0x010#12 d)
  | .setpRvLevel d => .txn (writeWord 0x011#12 d)
  | .setpRvFb d => .txn (writeWord 0x012#12 d)
  | .setpRvDamp d => .txn (writeWord 0x013#12 d)
  | .setpChLevel d => .txn (writeWord 0x014#12 d)
  | .setpChDepth d => .txn (writeWord 0x015#12 d)
  | .setpChSpeed d => .txn (writeWord 0x016#12 d)
  | .setpStWidth d => .txn (writeWord 0x017#12 d)
  | .setpLimThresh d => .txn (writeWord 0x018#12 d)
  | .setpLimEn d => .txn (writeWord 0x019#12 d)
  | .ldf k l r => .txn (writeWord (frameAddr k) (packFrame l r))
  | .rdf k => .txn (readWord (frameAddr k))
  | .rds => .txn (readWord 0x001#12)
  | .load => .uop 0#4
  | .vol => .uop 1#4
  | .echo => .uop 2#4
  | .reverb => .uop 3#4
  | .chorus => .uop 4#4
  | .vibrato => .uop 5#4
  | .tremolo => .uop 6#4
  | .stereo => .uop 7#4
  | .store => .uop 8#4
  | .norm => .uop 9#4

/-- The six bytes of a transaction word, least significant first. -/
def txnBytes (w : TxnWord) : List Byte :=
  [w.extractLsb' 0 8, w.extractLsb' 8 8, w.extractLsb' 16 8, w.extractLsb' 24 8,
    w.extractLsb' 32 8, 0#3 ++ w.extractLsb' 40 5]

/-- The bytes of an operation in its own format. -/
def encodedBytes : Encoded → List Byte
  | .txn w => txnBytes w
  | .uop c => [0#4 ++ c]

/-- The bytes of an operation. -/
def encode (i : Instr) : List Byte := encodedBytes (encodeWord i)

/-- The `n` low bytes of a number, least significant first. -/
def bytesOfNat : Nat → Nat → List Byte
  | 0, _ => []
  | n + 1, w => BitVec.ofNat 8 w :: bytesOfNat n (w / 256)

/-- How many bytes an instruction of `nbits` table bits has: a micro-operation row one, a transaction
row six. -/
def tableBytes (nbits : Nat) : Nat := if nbits ≤ 8 then 1 else 6

/-- The instruction the decoder reads from the table word `w`; none where it refuses, and none for a
number that does not fit the instruction's bytes. -/
def decodeTableWord (nbits w : Nat) : Option Instr :=
  if w < 256 ^ tableBytes nbits then (decode (bytesOfNat (tableBytes nbits) w)).toOption else none

end Sys2Proof
end

