-- ==== Sys2Proof/Machine/State.lean ====
section
/-! DEFINITION. The state of EFX as plain data: every piece of the table of spec/10_state.md R30, the
parameter record that R60 makes a parameter of the step (log entry 1), the turns still to come (log
entry 2) and the last answer at the port (log entry 4); what it is right after reset (R59, R280); why a
step can stop. -/

namespace Sys2Proof.Machine

/-- A memory space: (index, entry) pairs. The unit is one whole entry of the space (R70, log entry 17). -/
abbrev Memory (α : Type) := List (Nat × α)

/-- The ten parameter registers of R46, in address order. -/
structure ParamRegs where
  gvol : F
  rvLevel : F
  rvFb : F
  rvDamp : F
  chLevel : F
  chDepth : F
  chSpeed : F
  stWidth : F
  limThresh : F
  limEn : Bool
  deriving DecidableEq, Repr

/-- The answer to a transaction (R71, R102). -/
structure Answer where
  err : Bool
  rdata : Data
  deriving DecidableEq, Repr

/-- Whose turn it is in the total order of R81: a host transaction, one step of the engine, or the
reset of R280. -/
inductive Event where
  | host (w : TxnWord)
  | engine
  | reset
  deriving DecidableEq, Repr

/-- One entry of `WBUF`: two signed 32-bit integers, left and right (R56). -/
abbrev WorkFrame := BitVec 32 × BitVec 32

/-- The machine. -/
structure State where
  /-- The record `CFG` (R6, R60); nothing changes it. -/
  cfg : Cfg
  /-- `IN_L` (R31). -/
  inL : Sample
  /-- `IN_R` (R31). -/
  inR : Sample
  /-- `DRY` (R32). -/
  dry : F
  /-- `ACC_L` (R33). -/
  accL : F
  /-- `ACC_R` (R33). -/
  accR : F
  /-- `SIDX` (R35). -/
  sidx : UopCode
  /-- `FIDX` (R36). -/
  fidx : BitVec 11
  /-- `NF` (R37). -/
  nf : BitVec 11
  /-- `STATUS.BUSY` (R41). -/
  busy : Bool
  /-- `STATUS.DONE` (R41). -/
  done : Bool
  /-- `STATUS.NORM` (R41). -/
  normed : Bool
  /-- `IE.DONE_IE` (R42). -/
  doneIe : Bool
  /-- `NFRAMES` (R43). -/
  nframes : BitVec 11
  /-- `TOGGLE` (R44). -/
  toggle : BitVec 6
  /-- `DIAG` (R47). -/
  diag : BitVec 7
  /-- `PEAK` (R49). -/
  peak : Data
  /-- `SCALE` (R50). -/
  scale : F
  /-- `GVOL` to `LIM_EN` (R46). -/
  params : ParamRegs
  /-- `CUR[0]` to `CUR[9]` (R51). -/
  cur : Vector Nat 10
  /-- `PH[0]` to `PH[4]` (R52). -/
  ph : Vector F 5
  /-- `DL[0]` to `DL[9]` (R53); an entry not listed is +0.0. -/
  dl : Vector (Memory F) 10
  /-- `BLK` (R54); an entry not listed is 0. -/
  blk : Memory Data
  /-- `PEAKACC` (R55). -/
  peakacc : BitVec 32
  /-- `WBUF` (R56); an entry not listed has no value. -/
  wbuf : Memory WorkFrame
  /-- The model's own: the turns still to come, first first. -/
  events : List Event
  /-- The model's own: the answer to the last transaction, none before the first. -/
  answer : Option Answer
  deriving DecidableEq, Repr

/-- Why a step stops. EFX has no fault of its own (R260): each of these is raised only in a state that
no run reaches. -/
inductive Fault where
  /-- Raised by the engine's turn when `STATUS.BUSY = 1` and `SIDX >= 10`: the stuck state of R112.
  Safe: the spec gives the engine no step there. -/
  | sequencerStuck
  /-- Raised by LOAD when `FIDX` names no entry of `BLK` (R54). Safe: the access does not exist. -/
  | noSuchFrame
  /-- Raised by STORE and NORM when a frame index names no entry of `WBUF` (R56). Safe, likewise. -/
  | noSuchWorkFrame
  /-- Raised by NORM when an entry of `WBUF` below `NF` has no value (R56, U12). Safe: no value is made
  up. -/
  | workFrameUnwritten
  /-- Raised by an enabled stage when a cursor of its lines is outside its line (R51, R77). Safe: the
  access does not exist. -/
  | noSuchLineEntry
  deriving DecidableEq, Repr

/-- Why an instruction has no meaning. -/
inductive Refusal where
  /-- Raised by `exec` for an instruction that has no meaning yet. Safe: nothing is claimed of it. No
  arm of this model raises it. -/
  | notModelled (mnemonic : String)
  deriving DecidableEq, Repr

/-- The reset state of R59 and R280 for a parameter record: the engine idle, `SCALE` 1.0, the parameters
and toggles at their `RST_` values, `PH[0]` and `PH[1]` at the two open phases, `WBUF` without values,
all else zero. -/
def State.resetOf (c : Cfg) : State where
  cfg := c
  inL := 0#16
  inR := 0#16
  dry := 0#32
  accL := 0#32
  accR := 0#32
  sidx := 0#4
  fidx := 0#11
  nf := 0#11
  busy := false
  done := false
  normed := false
  doneIe := false
  nframes := 0#11
  toggle := c.rstToggle
  diag := 0#7
  peak := 0#32
  scale := 0x3F800000#32
  params :=
    { gvol := c.rstGvol, rvLevel := c.rstRvLevel, rvFb := c.rstRvFb, rvDamp := c.rstRvDamp
      chLevel := c.rstChLevel, chDepth := c.rstChDepth, chSpeed := c.rstChSpeed
      stWidth := c.rstStWidth, limThresh := c.rstLimThresh, limEn := c.rstLimEn }
  cur := #v[0, 0, 0, 0, 0, 0, 0, 0, 0, 0]
  ph := #v[c.phiC1Reset, c.phiC2Reset, 0#32, 0#32, 0#32]
  dl := #v[[], [], [], [], [], [], [], [], [], []]
  blk := []
  peakacc := 0#32
  wbuf := []
  events := []
  answer := none

/-- The machine right after reset, with the default parameters of R6. -/
def State.reset : State := State.resetOf Cfg.default

end Sys2Proof.Machine
end

