-- ==== Sys2Proof/Machine/Operands.lean ====
section
/-! DEFINITION. What the operand fields of a transaction name: the target of an address
(spec/10_state.md R39, spec/20_memory.md R75, spec/30_encoding.md R106, R110), and the two halves of a
frame word (R54, R105). -/

namespace Sys2Proof.Machine

/-- The nine parameter registers that hold a value of `F` (R46), in address order. -/
inductive FloatParam where
  | gvol
  | rvLevel
  | rvFb
  | rvDamp
  | chLevel
  | chDepth
  | chSpeed
  | stWidth
  | limThresh
  deriving DecidableEq, Repr

/-- What an address of the host space names (R39). -/
inductive Target where
  | cmd
  | status
  | ie
  | nframes
  | toggle
  | diag
  | peak
  | scale
  | param (p : FloatParam)
  | limEn
  /-- `BLK[k]` with `k < BLOCK_MAX`. -/
  | blk (k : Nat)
  /-- Neither a register nor inside the `BLK` window (R110). -/
  | unmapped
  deriving DecidableEq, Repr

/-- The target of an address (R39, R106). -/
def hostTarget (c : Cfg) (a : Addr) : Target :=
  if a = 0x000#12 then .cmd
  else if a = 0x001#12 then .status
  else if a = 0x002#12 then .ie
  else if a = 0x003#12 then .nframes
  else if a = 0x004#12 then .toggle
  else if a = 0x005#12 then .diag
  else if a = 0x006#12 then .peak
  else if a = 0x007#12 then .scale
  else if a = 0x010#12 then .param .gvol
  else if a = 0x011#12 then .param .rvLevel
  else if a = 0x012#12 then .param .rvFb
  else if a = 0x013#12 then .param .rvDamp
  else if a = 0x014#12 then .param .chLevel
  else if a = 0x015#12 then .param .chDepth
  else if a = 0x016#12 then .param .chSpeed
  else if a = 0x017#12 then .param .stWidth
  else if a = 0x018#12 then .param .limThresh
  else if a = 0x019#12 then .limEn
  else if 0x400 ≤ a.toNat ∧ a.toNat < 0x400 + c.blockMax then .blk (a.toNat - 0x400)
  else .unmapped

/-- The value a parameter register holds (R46). -/
def ParamRegs.get (r : ParamRegs) : FloatParam → F
  | .gvol => r.gvol
  | .rvLevel => r.rvLevel
  | .rvFb => r.rvFb
  | .rvDamp => r.rvDamp
  | .chLevel => r.chLevel
  | .chDepth => r.chDepth
  | .chSpeed => r.chSpeed
  | .stWidth => r.stWidth
  | .limThresh => r.limThresh

/-- The registers with one of them written, all 32 bits unchanged (R46). -/
def ParamRegs.put (r : ParamRegs) (v : F) : FloatParam → ParamRegs
  | .gvol => { r with gvol := v }
  | .rvLevel => { r with rvLevel := v }
  | .rvFb => { r with rvFb := v }
  | .rvDamp => { r with rvDamp := v }
  | .chLevel => { r with chLevel := v }
  | .chDepth => { r with chDepth := v }
  | .chSpeed => { r with chSpeed := v }
  | .stWidth => { r with stWidth := v }
  | .limThresh => { r with limThresh := v }

/-- The left sample of a frame word, bits 15:0 (R54). -/
def leftSample (w : Data) : Sample := w.extractLsb' 0 16

/-- The right sample of a frame word, bits 31:16 (R54). -/
def rightSample (w : Data) : Sample := w.extractLsb' 16 16

end Sys2Proof.Machine
end

