-- ==== Sys2Proof/Machine/Ops.lean ====
section
/-! DEFINITION. The named operations over memories and registers that every meaning is written with.

EFX takes no exception and returns from none (spec/60_exceptions.md R260, R266, R267). What stands in
the place of taking one is the refusal at the port (R262): one shared operation, `State.refuse`. -/

namespace Sys2Proof.Machine

/-! ### Memories -/

/-- The entry listed at an index, if any. -/
def Memory.find? {α : Type} (m : Memory α) (a : Nat) : Option α :=
  match m with
  | [] => none
  | (b, v) :: rest => if b = a then some v else Memory.find? rest a

/-- The entry at an index of a space whose unlisted entries hold `d`. -/
def Memory.get {α : Type} (d : α) (m : Memory α) (a : Nat) : α := (Memory.find? m a).getD d

/-- The memory with `v` listed at `a`, in the place that keeps the indices rising. -/
def Memory.put {α : Type} (m : Memory α) (a : Nat) (v : α) : Memory α :=
  match m with
  | [] => [(a, v)]
  | (b, w) :: rest =>
    if a < b then (a, v) :: (b, w) :: rest
    else if a = b then (a, v) :: rest
    else (b, w) :: Memory.put rest a v

/-- The memory with nothing listed at `a`. -/
def Memory.drop {α : Type} (m : Memory α) (a : Nat) : Memory α := m.filter fun e => e.1 != a

/-- A write to a space whose unlisted entries hold `d`: writing `d` lists nothing. -/
def Memory.set {α : Type} [DecidableEq α] (d : α) (m : Memory α) (a : Nat) (v : α) : Memory α :=
  if v = d then Memory.drop m a else Memory.put m a v

/-- Indices strictly rising. -/
def Memory.rising {α : Type} : Memory α → Bool
  | [] => true
  | (a, _) :: rest =>
    (match rest with
      | [] => true
      | (b, _) :: _ => decide (a < b)) && Memory.rising rest

/-- The canonical form: indices strictly rising and below the size of the space, and no entry equal to
what an unlisted index reads as (`none`: an unlisted index has no value). -/
def Memory.wf {α : Type} [DecidableEq α] (unlisted : Option α) (size : Nat) (m : Memory α) : Bool :=
  Memory.rising m && m.all fun e => decide (e.1 < size) && decide (unlisted ≠ some e.2)

/-! ### The numerics record of the machine (R6, R11 to R16, R18, R22) -/

/-- `fadd` of the machine's record. -/
def State.fadd (s : State) (a b : F) : F := numAdd s.cfg.num a b

/-- `fsub` of the machine's record. -/
def State.fsub (s : State) (a b : F) : F := numSub s.cfg.num a b

/-- `fmul` of the machine's record. -/
def State.fmul (s : State) (a b : F) : F := numMul s.cfg.num a b

/-- `fdiv` of the machine's record. -/
def State.fdiv (s : State) (a b : F) : F := numDiv s.cfg.num a b

/-- `i2f` of the machine's record. -/
def State.i2f (s : State) (i : Int) : F := numI2f s.cfg.num i

/-- `u2f` of the machine's record. -/
def State.u2f (s : State) (u : Nat) : F := numU2f s.cfg.num u

/-- `f2i` of the machine's record. -/
def State.f2i (s : State) (x : F) : BitVec 32 := numF2i s.cfg.num x

/-- `oor` of the machine's record. -/
def State.oor (s : State) (x : F) : Bool := numOor s.cfg.num x

/-- `fge` of the machine's record. -/
def State.fge (s : State) (a b : F) : Bool := numGe s.cfg.num a b

/-- `SIN` of the machine's record (R18). -/
def State.sin (s : State) (x : F) : F := numSin s.cfg.num s.cfg.sin x

/-- `mono(l, r)` (R22). -/
def State.mono (s : State) (l r : Sample) : F := s.fmul (s.fadd (s.i2f l.toInt) (s.i2f r.toInt)) half

/-! ### The delay line (R130, R131) -/

/-- `N[d]`. -/
def State.lineSize (s : State) (d : Fin 10) : Nat := s.cfg.n d

/-- `CUR[d]`. -/
def State.cursor (s : State) (d : Fin 10) : Nat := s.cur[d.val]

/-- `MemRead(DL[d], i)`. -/
def State.lineEntry (s : State) (d : Fin 10) (i : Nat) : F := Memory.get 0#32 s.dl[d.val] i

/-- The index `(CUR[d] - k) mod N[d]`, for `k <= N[d]` (R130). -/
def State.lineIndex (s : State) (d : Fin 10) (k : Nat) : Nat :=
  (s.cursor d + (s.lineSize d - k)) % s.lineSize d

/-- `DL.read(d, k)` (R130). -/
def State.lineRead (s : State) (d : Fin 10) (k : Nat) : F := s.lineEntry d (s.lineIndex d k)

/-- `DL.write_adv(d, v)` (R131). -/
def State.lineWriteAdv (s : State) (d : Fin 10) (v : F) : State :=
  { s with
    dl := s.dl.set d.val (Memory.set 0#32 s.dl[d.val] (s.cursor d) v)
    cur := s.cur.set d.val ((s.cursor d + 1) % s.lineSize d) }

/-- `DL.write_adv` of one value into several lines, in order. -/
def State.linesWriteAdv (s : State) (ds : List (Fin 10)) (v : F) : State :=
  ds.foldl (fun t d => t.lineWriteAdv d v) s

/-- Every cursor of these lines stands inside its line (R51). -/
def State.cursorsInside (s : State) (ds : List (Fin 10)) : Bool :=
  ds.all fun d => decide (s.cursor d < s.lineSize d)

/-! ### The oscillator phase (R137, R138) -/

/-- `PH[p]`. -/
def State.phase (s : State) (p : Fin 5) : F := s.ph[p.val]

/-- `inc = fdiv(fmul(TWO_PI, f), SR_F)` (R137). -/
def State.phaseInc (s : State) (f : F) : F := s.fdiv (s.fmul twoPi f) (s.i2f s.cfg.sr)

/-- `wrap(x)` (R138). -/
def State.wrap (s : State) (x : F) : F := if s.fge x twoPi then s.fsub x twoPi else x

/-- `PH.adv(p, f)` (R137). -/
def State.phaseAdv (s : State) (p : Fin 5) (f : F) : State :=
  { s with ph := s.ph.set p.val (s.wrap (s.fadd (s.phase p) (s.phaseInc f))) }

/-! ### Registers -/

/-- `ACC_L <- l`, `ACC_R <- r`. -/
def State.setAcc (s : State) (l r : F) : State := { s with accL := l, accR := r }

/-- `SIDX <- c`. -/
def State.setSidx (s : State) (c : UopCode) : State := { s with sidx := c }

/-- The entry `BLK[k]`. -/
def State.frame (s : State) (k : Nat) : Data := Memory.get 0#32 s.blk k

/-- `MemWrite(BLK, k, v)`. -/
def State.setFrame (s : State) (k : Nat) (v : Data) : State :=
  { s with blk := Memory.set 0#32 s.blk k v }

/-- The entry `WBUF[k]`, if it has a value. -/
def State.workFrame? (s : State) (k : Nat) : Option WorkFrame := Memory.find? s.wbuf k

/-! ### The port (R71, R102, R262) -/

/-- The transaction is answered with `err = 0`. -/
def State.accept (s : State) (rdata : Data) : State := { s with answer := some ⟨false, rdata⟩ }

/-- The transaction is refused: `err = 1`, `rdata = 0`, and nothing of the machine changes (R262). -/
def State.refuse (s : State) : State := { s with answer := some ⟨true, 0#32⟩ }

/-- The turns that are left after the first. -/
def State.withEvents (s : State) (es : List Event) : State := { s with events := es }

/-- START (R233): the effect of `WR CMD, 1` on an idle engine. -/
def State.startBlock (s : State) : State :=
  { s with
    nf := s.nframes
    fidx := 0#11
    peakacc := 0#32
    done := false
    busy := true
    sidx := if s.nframes = 0#11 then 9#4 else 0#4 }

/-- The reset of R280: every piece of state at its reset value, whatever went before. The parameter
record and the turns still to come are no state of EFX and stay (log entry 19). -/
def State.resetNow (s : State) : State := { State.resetOf s.cfg with events := s.events }

end Sys2Proof.Machine
end

