-- ==== Sys2Proof/Machine/Flags.lean ====
section
/-! DEFINITION. The flags of EFX (spec/10_state.md R41, R45, R47, R57; spec/46_dynamic_range.md R210):
the stage check that sets `DIAG`, the `STATUS` word, the clearing writes, the wire `irq`. -/

namespace Sys2Proof.Machine

/-- `check(n)` (R210): sets `DIAG[n]` when an accumulator is out of range; clears nothing. -/
def State.check (s : State) (n : Nat) : State :=
  if s.oor s.accL || s.oor s.accR then { s with diag := s.diag ||| (1#7 <<< n) } else s

/-- The word `STATUS` as read: `BUSY` bit 0, `DONE` bit 1, `NORM` bit 2 (R41). -/
def State.statusWord (s : State) : Data :=
  0#29 ++ BitVec.ofBool s.normed ++ BitVec.ofBool s.done ++ BitVec.ofBool s.busy

/-- A write to `STATUS` (R41): bit 1 clears `DONE`, nothing else acts. -/
def State.ackStatus (s : State) (d : Data) : State :=
  if d.getLsbD 1 then { s with done := false } else s

/-- A write to `DIAG` (R47): the bits written 1 are cleared. -/
def State.clearDiag (s : State) (d : Data) : State := { s with diag := s.diag &&& ~~~(d.extractLsb' 0 7) }

/-- The wire `irq` (R57): `IE.DONE_IE and STATUS.DONE`. -/
def State.irq (s : State) : Bool := s.doneIe && s.done

/-- The toggle bit of a stage (R44). -/
def State.enabled (s : State) (bit : Nat) : Bool := s.toggle.getLsbD bit

end Sys2Proof.Machine
end

