-- ==== Sys2Proof/Machine/Stage.lean ====
section
/-! DEFINITION. What the six toggled stages share (spec/47_host_ops_sequencer.md R237,
spec/46_dynamic_range.md R210): a stage whose toggle is 0 changes `SIDX` alone; an enabled one performs
its body, then its check, then moves on. -/

namespace Sys2Proof.Machine

/-- A toggled stage as a function of the state: `bit` its bit of `TOGGLE`, `flag` its bit of `DIAG`,
`next` the code that follows. -/
def State.stage (s : State) (bit flag : Nat) (next : UopCode) (body : State → State) : State :=
  if s.enabled bit then ((body s).check flag).setSidx next else s.setSidx next

/-- A toggled stage that owns the lines `ds`. An enabled stage with a cursor outside its line has no
access to make (R51, R77; log entry 13). -/
def State.runStage (s : State) (bit : Nat) (ds : List (Fin 10)) (flag : Nat) (next : UopCode)
    (body : State → State) : Host.Outcome State Fault Refusal :=
  if s.enabled bit && !s.cursorsInside ds then .fault .noSuchLineEntry
  else .next (s.stage bit flag next body)

/-- One value added to both accumulators. -/
def State.addBoth (s : State) (t : F) : State := s.setAcc (s.fadd s.accL t) (s.fadd s.accR t)

/-- Both accumulators multiplied by one value. -/
def State.scaleBoth (s : State) (m : F) : State := s.setAcc (s.fmul s.accL m) (s.fmul s.accR m)

end Sys2Proof.Machine
end

