-- ==== Sys2Proof/Machine/Chorus.lean ====
section
/-! DEFINITION. The three-voice chorus (spec/43_chorus.md). -/

namespace Sys2Proof.Machine

/-- One voice of R180: (weight times tap) times modulator; the tap is read at offset
`N[d] mod N[d]`, the entry at the cursor (R136). -/
def State.chorusVoice (s : State) (d : Fin 10) (p : Fin 5) (weight : F) : F :=
  let v := s.lineRead d (s.lineSize d % s.lineSize d)
  let m := s.fadd chBias (s.fmul s.params.chDepth (s.sin (s.phase p)))
  s.fmul (s.fmul weight v) m

/-- The output `o` of R180: the weighted sum, left to right, times the mix factor. -/
def State.chorusOut (s : State) : F :=
  s.fmul gChMix
    (s.fadd (s.fadd (s.chorusVoice 6 0 gCh1) (s.chorusVoice 7 1 gCh2)) (s.chorusVoice 8 2 gCh3))

/-- What an enabled `CHORUS` does before its check (R180). -/
def State.chorusBody (s : State) : State :=
  let sp := s.params.chSpeed
  (((((s.addBoth s.chorusOut).linesWriteAdv [6, 7, 8] s.dry).phaseAdv 0 sp).phaseAdv 1 sp).phaseAdv 2 sp)

/-- `CHORUS` as a function of the state (R180). -/
def State.chorusOp (s : State) : State := s.stage 2 3 5#4 State.chorusBody

/-- `CHORUS` (R180). -/
def execChorus (s : State) : Host.Outcome State Fault Refusal :=
  s.runStage 2 [6, 7, 8] 3 5#4 State.chorusBody

end Sys2Proof.Machine
end

