-- ==== Sys2Proof/Machine/DynamicRange.lean ====
section
/-! DEFINITION. Quantisation, peak and block rescale: STORE and NORM (spec/46_dynamic_range.md). -/

namespace Sys2Proof.Machine

/-- The body of `STORE` (R215). -/
def State.storeOp (s : State) : State :=
  let wl := s.f2i s.accL
  let wr := s.f2i s.accR
  { s with
    wbuf := Memory.put s.wbuf s.fidx.toNat (wl, wr)
    peakacc := umax (umax s.peakacc (absInt wl)) (absInt wr)
    fidx := s.fidx + 1#11
    sidx := if s.fidx + 1#11 = s.nf then 9#4 else 0#4 }

/-- `STORE` (R215). A frame index outside `WBUF` names no entry (log entry 13). -/
def execStore (s : State) : Host.Outcome State Fault Refusal :=
  if s.fidx.toNat < s.cfg.blockMax then .next s.storeOp else .fault .noSuchWorkFrame

/-- The peak is above the ceiling, so the block is rescaled (R220). -/
def State.rescales (s : State) : Bool := decide (32767 < s.peakacc.toNat)

/-- The factor of the block: `fdiv(CEIL, u2f(P))` when it is rescaled (R221), else 1.0. -/
def State.blockScale (s : State) : F :=
  if s.rescales then s.fdiv ceiling (s.u2f s.peakacc.toNat) else one

/-- One sample of the block made ready to leave (R220): rescaled if the block is, then narrowed. -/
def State.outSample (s : State) (w : BitVec 32) : Sample :=
  if s.rescales then sat16 (s.f2i (s.fmul (s.i2f w.toInt) s.blockScale)) else sat16 w

/-- One frame of the block made ready to leave (R105, R220). -/
def State.outFrame (s : State) (w : WorkFrame) : Data := packFrame (s.outSample w.1) (s.outSample w.2)

/-- `BLK` with its first `n` entries made from `WBUF` (the loop of R220); none when an entry of `WBUF`
has no value. -/
def State.outBlock? (s : State) : Nat → Option (Memory Data)
  | 0 => some s.blk
  | n + 1 =>
    match s.outBlock? n, s.workFrame? n with
    | some b, some w => some (Memory.set 0#32 b n (s.outFrame w))
    | _, _ => none

/-- What `NORM` leaves, given the block it hands back (R220). -/
def State.finishBlock (s : State) (b : Memory Data) : State :=
  { s with
    blk := b
    scale := s.blockScale
    normed := s.rescales
    peak := s.peakacc
    done := true
    busy := false }

/-- `NORM` (R220). `NF` above `BLOCK_MAX` names entries that do not exist (log entry 13), and an entry
of `WBUF` never written has no value (log entry 12); neither happens in a run. -/
def execNorm (s : State) : Host.Outcome State Fault Refusal :=
  if s.nf.toNat ≤ s.cfg.blockMax then
    match s.outBlock? s.nf.toNat with
    | some b => .next (s.finishBlock b)
    | none => .fault .workFrameUnwritten
  else .fault .noSuchWorkFrame

end Sys2Proof.Machine
end

