-- ==== Sys2Proof/Machine/FrameEntry.lean ====
section
/-! DEFINITION. Frame entry (LOAD) and the volume stage (VOL) (spec/41_frame_entry_volume.md). -/

namespace Sys2Proof.Machine

/-- The body of `LOAD` (R150). -/
def State.loadOp (s : State) : State :=
  let w := s.frame s.fidx.toNat
  { s with
    inL := leftSample w
    inR := rightSample w
    dry := s.mono (leftSample w) (rightSample w)
    sidx := 1#4 }

/-- `LOAD` (R150). A frame index outside `BLK` names no entry (log entry 13). -/
def execLoad (s : State) : Host.Outcome State Fault Refusal :=
  if s.fidx.toNat < s.cfg.blockMax then .next s.loadOp else .fault .noSuchFrame

/-- The body of `VOL` (R151). -/
def State.volOp (s : State) : State :=
  let g := s.params.gvol
  ((s.setAcc (s.fmul (s.i2f s.inL.toInt) g) (s.fmul (s.i2f s.inR.toInt) g)).check 0).setSidx 2#4

/-- `VOL` (R151). -/
def execVol (s : State) : Host.Outcome State Fault Refusal := .next s.volOp

end Sys2Proof.Machine
end

