-- ==== Sys2Proof/Machine/HostOps.lean ====
section
/-! DEFINITION. The host operations and their named forms (spec/47_host_ops_sequencer.md R230 to R234).
Each is one transaction, total in every state. -/

namespace Sys2Proof.Machine

/-- The table of R231: effect and answer of a write transaction. -/
def State.writeTxn (s : State) (a : Addr) (d : Data) : State :=
  match hostTarget s.cfg a with
  | .cmd =>
    if d = 1#32 then (if s.busy then s.refuse else s.startBlock.accept 0#32)
    else if d = 0#32 then s.accept 0#32
    else s.refuse
  | .status => (s.ackStatus d).accept 0#32
  | .ie => { s with doneIe := d.getLsbD 0 }.accept 0#32
  | .nframes =>
    if d.toNat ≤ s.cfg.blockMax then { s with nframes := d.extractLsb' 0 11 }.accept 0#32 else s.refuse
  | .toggle => { s with toggle := d.extractLsb' 0 6 }.accept 0#32
  | .diag => (s.clearDiag d).accept 0#32
  | .peak => s.accept 0#32
  | .scale => s.accept 0#32
  | .param p => { s with params := s.params.put d p }.accept 0#32
  | .limEn => { s with params := { s.params with limEn := d.getLsbD 0 } }.accept 0#32
  | .blk k => if s.busy then s.refuse else (s.setFrame k d).accept 0#32
  | .unmapped => s.refuse

/-- The table of R232: the answer of a read transaction; nothing else changes. -/
def State.readTxn (s : State) (a : Addr) : State :=
  match hostTarget s.cfg a with
  | .cmd => s.accept 0#32
  | .status => s.accept s.statusWord
  | .ie => s.accept (0#31 ++ BitVec.ofBool s.doneIe)
  | .nframes => s.accept (0#21 ++ s.nframes)
  | .toggle => s.accept (0#26 ++ s.toggle)
  | .diag => s.accept (0#25 ++ s.diag)
  | .peak => s.accept s.peak
  | .scale => s.accept s.scale
  | .param p => s.accept (s.params.get p)
  | .limEn => s.accept (0#31 ++ BitVec.ofBool s.params.limEn)
  | .blk k => if s.busy then s.refuse else s.accept (s.frame k)
  | .unmapped => s.refuse

/-- `WR addr, wdata` (R231). -/
def execWr (a : Addr) (d : Data) (s : State) : Host.Outcome State Fault Refusal := .next (s.writeTxn a d)

/-- `RD addr` (R232). -/
def execRd (a : Addr) (s : State) : Host.Outcome State Fault Refusal := .next (s.readTxn a)

/-- `START` = `WR CMD, 1` (R233). -/
def execStart (s : State) : Host.Outcome State Fault Refusal := .next (s.writeTxn 0x000#12 1#32)

/-- `ACK` = `WR STATUS, 2` (R234). -/
def execAck (s : State) : Host.Outcome State Fault Refusal := .next (s.writeTxn 0x001#12 2#32)

/-- `CLRD mask` = `WR DIAG, mask` (R234). -/
def execClrd (d : Data) (s : State) : Host.Outcome State Fault Refusal := .next (s.writeTxn 0x005#12 d)

/-- `SETIE b` = `WR IE, b` (R234). -/
def execSetie (d : Data) (s : State) : Host.Outcome State Fault Refusal := .next (s.writeTxn 0x002#12 d)

/-- `SETN n` = `WR NFRAMES, n` (R234). -/
def execSetn (d : Data) (s : State) : Host.Outcome State Fault Refusal := .next (s.writeTxn 0x003#12 d)

/-- `SETT mask` = `WR TOGGLE, mask` (R234). -/
def execSett (d : Data) (s : State) : Host.Outcome State Fault Refusal := .next (s.writeTxn 0x004#12 d)

/-- `SETP GVOL, data` = `WR 0x010, data` (R234). -/
def execSetpGvol (d : Data) (s : State) : Host.Outcome State Fault Refusal := .next (s.writeTxn 0x010#12 d)

/-- `SETP RV_LEVEL, data` = `WR 0x011, data` (R234). -/
def execSetpRvLevel (d : Data) (s : State) : Host.Outcome State Fault Refusal :=
  .next (s.writeTxn 0x011#12 d)

/-- `SETP RV_FB, data` = `WR 0x012, data` (R234). -/
def execSetpRvFb (d : Data) (s : State) : Host.Outcome State Fault Refusal := .next (s.writeTxn 0x012#12 d)

/-- `SETP RV_DAMP, data` = `WR 0x013, data` (R234). -/
def execSetpRvDamp (d : Data) (s : State) : Host.Outcome State Fault Refusal :=
  .next (s.writeTxn 0x013#12 d)

/-- `SETP CH_LEVEL, data` = `WR 0x014, data` (R234). -/
def execSetpChLevel (d : Data) (s : State) : Host.Outcome State Fault Refusal :=
  .next (s.writeTxn 0x014#12 d)

/-- `SETP CH_DEPTH, data` = `WR 0x015, data` (R234). -/
def execSetpChDepth (d : Data) (s : State) : Host.Outcome State Fault Refusal :=
  .next (s.writeTxn 0x015#12 d)

/-- `SETP CH_SPEED, data` = `WR 0x016, data` (R234). -/
def execSetpChSpeed (d : Data) (s : State) : Host.Outcome State Fault Refusal :=
  .next (s.writeTxn 0x016#12 d)

/-- `SETP ST_WIDTH, data` = `WR 0x017, data` (R234). -/
def execSetpStWidth (d : Data) (s : State) : Host.Outcome State Fault Refusal :=
  .next (s.writeTxn 0x017#12 d)

/-- `SETP LIM_THRESH, data` = `WR 0x018, data` (R234). -/
def execSetpLimThresh (d : Data) (s : State) : Host.Outcome State Fault Refusal :=
  .next (s.writeTxn 0x018#12 d)

/-- `SETP LIM_EN, data` = `WR 0x019, data` (R234). -/
def execSetpLimEn (d : Data) (s : State) : Host.Outcome State Fault Refusal := .next (s.writeTxn 0x019#12 d)

/-- `LDF k, l, r` = `WR BLK[k], {r, l}` (R234). -/
def execLdf (k : BitVec 10) (l r : Sample) (s : State) : Host.Outcome State Fault Refusal :=
  .next (s.writeTxn (frameAddr k) (packFrame l r))

/-- `RDF k` = `RD BLK[k]` (R234). -/
def execRdf (k : BitVec 10) (s : State) : Host.Outcome State Fault Refusal := .next (s.readTxn (frameAddr k))

/-- `RDS` = `RD STATUS` (R234). -/
def execRds (s : State) : Host.Outcome State Fault Refusal := .next (s.readTxn 0x001#12)

end Sys2Proof.Machine
end

