-- ==== Sys2Proof/Machine/Mixers.lean ====
section
/-! DEFINITION. The multi-tap mixers: ECHO and REVERB (spec/42_echo_reverb.md). -/

namespace Sys2Proof.Machine

/-- What an enabled `ECHO` does before its check (R160). -/
def State.echoBody (s : State) : State :=
  let e := s.lineRead 0 (s.lineSize 0)
  let t := s.fmul gEcho e
  (s.addBoth t).lineWriteAdv 0 s.dry

/-- `ECHO` as a function of the state (R160). -/
def State.echoOp (s : State) : State := s.stage 0 1 3#4 State.echoBody

/-- `ECHO` (R160). -/
def execEcho (s : State) : Host.Outcome State Fault Refusal := s.runStage 0 [0] 1 3#4 State.echoBody

/-- The reverb sum `S` of R165, before the mix factor. -/
def State.reverbSum (s : State) : F :=
  let t1 := s.lineRead 1 (s.lineSize 1)
  let t2 := s.lineRead 2 (s.lineSize 2)
  let t3 := s.lineRead 3 (s.lineSize 3)
  let t4 := s.lineRead 4 (s.lineSize 4)
  let t5 := s.lineRead 5 (s.lineSize 5)
  let k := s.fsub one s.params.rvDamp
  let g4 := s.fmul gRv4 k
  let g5 := s.fmul gRv5 k
  s.fadd (s.fadd (s.fadd (s.fadd (s.fmul gRv1 t1) (s.fmul gRv2 t2)) (s.fmul gRv3 t3)) (s.fmul g4 t4)) (s.fmul g5 t5)

/-- What an enabled `REVERB` does before its check (R165). -/
def State.reverbBody (s : State) : State :=
  let sum := s.reverbSum
  let w := s.fadd s.dry (s.fmul s.params.rvFb sum)
  (s.addBoth (s.fmul gRvMix sum)).linesWriteAdv [1, 2, 3, 4, 5] w

/-- `REVERB` as a function of the state (R165). -/
def State.reverbOp (s : State) : State := s.stage 1 2 4#4 State.reverbBody

/-- `REVERB` (R165). -/
def execReverb (s : State) : Host.Outcome State Fault Refusal :=
  s.runStage 1 [1, 2, 3, 4, 5] 2 4#4 State.reverbBody

end Sys2Proof.Machine
end

