-- ==== Sys2Proof/Machine/Modulators.lean ====
section
/-! DEFINITION. The envelope modulators VIBRATO and TREMOLO (spec/44_vibrato_tremolo.md). -/

namespace Sys2Proof.Machine

/-- What an enabled `VIBRATO` does before its check (R190). -/
def State.vibratoBody (s : State) : State :=
  (s.scaleBoth (s.fadd one (s.fmul vibDepth (s.sin (s.phase 3))))).phaseAdv 3 fLfo

/-- `VIBRATO` as a function of the state (R190). -/
def State.vibratoOp (s : State) : State := s.stage 3 4 6#4 State.vibratoBody

/-- `VIBRATO` (R190). -/
def execVibrato (s : State) : Host.Outcome State Fault Refusal := s.runStage 3 [] 4 6#4 State.vibratoBody

/-- What an enabled `TREMOLO` does before its check (R195). -/
def State.tremoloBody (s : State) : State :=
  (s.scaleBoth (s.fadd trmBias (s.fmul trmDepth (s.sin (s.phase 4))))).phaseAdv 4 fLfo

/-- `TREMOLO` as a function of the state (R195). -/
def State.tremoloOp (s : State) : State := s.stage 4 5 7#4 State.tremoloBody

/-- `TREMOLO` (R195). -/
def execTremolo (s : State) : Host.Outcome State Fault Refusal := s.runStage 4 [] 5 7#4 State.tremoloBody

end Sys2Proof.Machine
end

