-- ==== Sys2Proof/Machine/Widener.lean ====
section
/-! DEFINITION. The stereo widener (spec/45_stereo_widening.md). -/

namespace Sys2Proof.Machine

/-- What an enabled `STEREO` does before its check (R200). -/
def State.stereoBody (s : State) : State :=
  let t := s.fmul gSt (s.lineRead 9 (s.lineSize 9))
  (s.setAcc (s.fadd s.accL t) (s.fsub s.accR t)).lineWriteAdv 9 s.dry

/-- `STEREO` as a function of the state (R200). -/
def State.stereoOp (s : State) : State := s.stage 5 6 8#4 State.stereoBody

/-- `STEREO` (R200). -/
def execStereo (s : State) : Host.Outcome State Fault Refusal := s.runStage 5 [9] 6 8#4 State.stereoBody

end Sys2Proof.Machine
end

