-- ==== Sys2Proof/Machine/Dispatch.lean ====
section
/-! DEFINITION. The meaning of each operation: one arm per constructor of `Instr`. -/

namespace Sys2Proof.Machine

def exec (i : Instr) (s : State) : Host.Outcome State Fault Refusal :=
  match i with
  | .wr addr wdata => Sys2Proof.Machine.execWr addr wdata s
  | .rd addr => Sys2Proof.Machine.execRd addr s
  | .start => Sys2Proof.Machine.execStart s
  | .ack => Sys2Proof.Machine.execAck s
  | .clrd mask => Sys2Proof.Machine.execClrd mask s
  | .setie data => Sys2Proof.Machine.execSetie data s
  | .setn data => Sys2Proof.Machine.execSetn data s
  | .sett data => Sys2Proof.Machine.execSett data s
  | .setpGvol data => Sys2Proof.Machine.execSetpGvol data s
  | .setpRvLevel data => Sys2Proof.Machine.execSetpRvLevel data s
  | .setpRvFb data => Sys2Proof.Machine.execSetpRvFb data s
  | .setpRvDamp data => Sys2Proof.Machine.execSetpRvDamp data s
  | .setpChLevel data => Sys2Proof.Machine.execSetpChLevel data s
  | .setpChDepth data => Sys2Proof.Machine.execSetpChDepth data s
  | .setpChSpeed data => Sys2Proof.Machine.execSetpChSpeed data s
  | .setpStWidth data => Sys2Proof.Machine.execSetpStWidth data s
  | .setpLimThresh data => Sys2Proof.Machine.execSetpLimThresh data s
  | .setpLimEn data => Sys2Proof.Machine.execSetpLimEn data s
  | .ldf k l r => Sys2Proof.Machine.execLdf k l r s
  | .rdf k => Sys2Proof.Machine.execRdf k s
  | .rds => Sys2Proof.Machine.execRds s
  | .load => Sys2Proof.Machine.execLoad s
  | .vol => Sys2Proof.Machine.execVol s
  | .echo => Sys2Proof.Machine.execEcho s
  | .reverb => Sys2Proof.Machine.execReverb s
  | .chorus => Sys2Proof.Machine.execChorus s
  | .vibrato => Sys2Proof.Machine.execVibrato s
  | .tremolo => Sys2Proof.Machine.execTremolo s
  | .stereo => Sys2Proof.Machine.execStereo s
  | .store => Sys2Proof.Machine.execStore s
  | .norm => Sys2Proof.Machine.execNorm s

end Sys2Proof.Machine
end

