-- ==== Sys2Proof/Machine/Sequencer.lean ====
section
/-! DEFINITION. Which operation a step performs (spec/20_memory.md R81, spec/47_host_ops_sequencer.md
R236, spec/70_reset_and_hazards.md R280): the next turn of the event list, or the engine's when the list
is empty (log entry 2). -/

namespace Sys2Proof.Machine

/-- What the next step is. -/
inductive Turn where
  /-- An operation, performed on this state. -/
  | run (i : Instr) (s : State)
  /-- Nothing is performed but what this state shows: an idle engine's turn, or a reset. -/
  | settle (s : State)
  /-- The engine is busy at a position that names no micro-operation (R112). -/
  | stuck

/-- The engine's turn (R236): the micro-operation of `SIDX` while busy, nothing while idle. -/
def engineTurn (s : State) : Turn :=
  if s.busy then
    match decodeUop s.sidx with
    | some i => .run i s
    | none => .stuck
  else .settle s

/-- The next turn. -/
def nextTurn (s : State) : Turn :=
  match s.events with
  | [] => engineTurn s
  | .host w :: rest => .run (decodeTxn w) (s.withEvents rest)
  | .engine :: rest => engineTurn (s.withEvents rest)
  | .reset :: rest => .settle (s.withEvents rest).resetNow

/-- The transaction word `w` as the next turn. -/
def State.placeTxn (s : State) (w : Nat) : State := s.withEvents (.host (BitVec.ofNat 45 w) :: s.events)

/-- The sequencer at the micro-operation code `w`, the engine busy and its turn next. -/
def State.placeUop (s : State) (w : Nat) : State :=
  { s with busy := true, sidx := BitVec.ofNat 4 w, events := .engine :: s.events }

end Sys2Proof.Machine
end

