-- ==== Sys2Proof/Machine/Step.lean ====
section
/-! DEFINITION. One atomic step of EFX (spec/20_memory.md R80, R81), and an operation placed where the
next step takes it from (log entry 18). -/

namespace Sys2Proof.Machine

/-- One step: the operation whose turn it is, or the stop of R112. -/
def step (s : State) : Host.Outcome State Fault Refusal :=
  match nextTurn s with
  | .run i t => exec i t
  | .settle t => .next t
  | .stuck => .fault .sequencerStuck

/-- `s` with the operation of the table word `w` next: a transaction at the head of the event list, a
micro-operation at the sequencer's position. -/
def State.withFetchWord (s : State) (nbits w : Nat) : State :=
  if tableBytes nbits = 1 then s.placeUop w else s.placeTxn w

end Sys2Proof.Machine
end

