-- ==== Sys2Proof/Machine/Block.lean ====
section
/-! DEFINITION. A block as one function of the state (spec/47_host_ops_sequencer.md R239): what the nine
micro-operations of a frame do in their fixed order, without the sequencer that performs them one by
one. The step function does not use this file; statements compare it with the step. -/

namespace Sys2Proof.Machine

/-- One frame: `LOAD VOL ECHO REVERB CHORUS VIBRATO TREMOLO STEREO STORE` (R236). -/
def State.frameOp (s : State) : State :=
  s.loadOp.volOp.echoOp.reverbOp.chorusOp.vibratoOp.tremoloOp.stereoOp.storeOp

/-- `n` frames in succession. -/
def State.framesOp : Nat → State → State
  | 0, s => s
  | n + 1, s => State.framesOp n s.frameOp

/-- How many frames of the block are still to come. -/
def State.framesLeft (s : State) : Nat := s.nf.toNat - s.fidx.toNat

end Sys2Proof.Machine
end

