-- ==== Sys2Proof/Safety.lean ====
section
/-! DEFINITION. What counts as a safe run of EFX, in the terms the statements use: the invariant that
rules out the states no run reaches, and the views that statements compare states by. -/

namespace Sys2Proof.Machine

/-- The magnitude of both samples of a working frame is at most `p`. -/
def frameWithin (p : BitVec 32) (w : WorkFrame) : Prop :=
  (absInt w.1).toNat ≤ p.toNat ∧ (absInt w.2).toNat ≤ p.toNat

/-- What holds of every state a run reaches. -/
structure State.Inv (s : State) : Prop where
  /-- The parameter record meets the constraints of R6. -/
  cfgWf : s.cfg.wf
  /-- `0 <= CUR[d] < N[d]` (R51). -/
  cursors : ∀ d : Fin 10, s.cursor d < s.lineSize d
  /-- The delay lines are canonical and hold no entry outside themselves (R53, R77). -/
  lines : ∀ d : Fin 10, Memory.wf (some 0#32) (s.lineSize d) s.dl[d.val] = true
  /-- `BLK` is canonical and holds no entry outside itself (R54). -/
  blkWf : Memory.wf (some 0#32) s.cfg.blockMax s.blk = true
  /-- `WBUF` is canonical and holds no entry outside itself (R56). -/
  wbufWf : Memory.wf none s.cfg.blockMax s.wbuf = true
  /-- `0 <= NFRAMES <= BLOCK_MAX` (R43). -/
  nframesLe : s.nframes.toNat ≤ s.cfg.blockMax
  /-- `0 <= NF <= BLOCK_MAX` (R37). -/
  nfLe : s.nf.toNat ≤ s.cfg.blockMax
  /-- `0 <= FIDX <= NF` (R36). -/
  fidxLe : s.fidx.toNat ≤ s.nf.toNat
  /-- `SIDX` is one of 0 to 9 (R35). -/
  sidxLe : s.sidx.toNat ≤ 9
  /-- While busy, the position is inside a frame of the block, or at NORM after the last (R36, R38). -/
  position : s.busy = true →
    (s.sidx.toNat ≤ 8 ∧ s.fidx.toNat < s.nf.toNat) ∨ (s.sidx = 9#4 ∧ s.fidx = s.nf)
  /-- `DONE` is clear while the engine is busy (R41, R233). -/
  busyNotDone : s.busy = true → s.done = false
  /-- While busy, the frames done have their entry in `WBUF`, and `PEAKACC` bounds them (R55, R56). -/
  written : s.busy = true → ∀ k, k < s.fidx.toNat →
    ∃ w, s.workFrame? k = some w ∧ frameWithin s.peakacc w
  /-- `PEAKACC` is at most `2^31` (R19). -/
  peakaccLe : s.peakacc.toNat ≤ 2 ^ 31
  /-- `PEAK` is between 0 and `2^31` (R49). -/
  peakLe : s.peak.toNat ≤ 2 ^ 31
  /-- `SCALE` is never a NaN (R20), with the default record: R221, which R20 rests on, is a bound of binary32. -/
  scaleNumber : s.cfg.num = .binary32 → isNaN s.scale = false

/-- A value of binary32 in [0, 2π) as the wrap sees it: `0 <= x` and not `x >= TWO_PI` (R52, R138). -/
def inTurn (x : F) : Bool := fle 0#32 x && !fge x twoPi

/-- The state of EFX alone: without the turns still to come and the last answer, which are no state of
EFX (log entries 2, 4). -/
def State.efx (s : State) : State := { s with events := [], answer := none }

/-- The state without its diagnostics: `DIAG`, `PEAK`, `SCALE` and `STATUS.NORM` (R274). -/
def State.functional (s : State) : State :=
  { s with diag := 0#7, peak := 0#32, scale := 0#32, normed := false }

/-- The ten micro-operations (R104). -/
def isMicroOp (i : Instr) : Bool :=
  match encodeWord i with
  | .uop _ => true
  | .txn _ => false

/-- The delay lines a micro-operation owns (R132). -/
def ownedLines : Instr → List (Fin 10)
  | .echo => [0]
  | .reverb => [1, 2, 3, 4, 5]
  | .chorus => [6, 7, 8]
  | .stereo => [9]
  | _ => []

/-- The factors that the stages compute and multiply the sound by are finite: the damped reverb gains (R165), the
modulators of the chorus voices (R180), of VIBRATO (R190) and of TREMOLO (R195). -/
def State.FiniteFactors (s : State) : Prop :=
  isFinite (s.fmul gRv4 (s.fsub one s.params.rvDamp)) = true ∧
  isFinite (s.fmul gRv5 (s.fsub one s.params.rvDamp)) = true ∧
  (∀ p : Fin 5, p.val < 3 →
    isFinite (s.fadd chBias (s.fmul s.params.chDepth (s.sin (s.phase p)))) = true) ∧
  isFinite (s.fadd one (s.fmul vibDepth (s.sin (s.phase 3)))) = true ∧
  isFinite (s.fadd trmBias (s.fmul trmDepth (s.sin (s.phase 4)))) = true

/-- Nothing but silence is stored: the input is zero, every delay-line entry and accumulator is a zero
(spec/95_test_vectors.md S6). -/
structure State.Silent (s : State) : Prop where
  input : s.inL = 0#16 ∧ s.inR = 0#16
  block : ∀ k, s.frame k = 0#32
  work : ∀ k w, s.workFrame? k = some w → w = (0#32, 0#32)
  lines : ∀ d k, isZero (s.lineEntry d k) = true
  dry : isZero s.dry = true
  acc : isZero s.accL = true ∧ isZero s.accR = true
  peak : s.peakacc = 0#32
  /-- Finite parameters where the datapath reads them (R46). -/
  finite : isFinite s.params.gvol = true ∧ isFinite s.params.rvFb = true ∧
    isFinite s.params.rvDamp = true ∧ isFinite s.params.chDepth = true

end Sys2Proof.Machine
end

