-- ==== Sys2Proof/Certificates/Slice0/Obligations.lean ====
section
/-! DEFINITION. The statements for the provers. Each docstring names the rule of spec/ it formalises; a
statement or a clause that rests on a choice of the model says so and names the log entry. -/

open Sys2Proof Sys2Proof.Machine

/-! ## Encodings -/

/-- spec/30_encoding.md R101, R103, R104, R117: the decoder reads back what the encoder writes, for every
operation in its well-formed spelling and every operand at every value. The byte layout is the model's
(log entry 5), as is the named form as the reading of a named word (log entry 6). -/
def Obligations.DecodeAfterEncodeIsIdentity : Prop :=
  ∀ i : Instr, WellFormed i → decode (encode i) = .ok i

/-- R106, R101: each of the `2^45` transaction words is read as an operation in its well-formed spelling,
which stands for that very word (for a read: with the ignored data bits 0). -/
def Obligations.EveryTransactionWordIsReadOrWrite : Prop :=
  ∀ w : TxnWord, WellFormed (decodeTxn w) ∧
    encodeWord (decodeTxn w) = .txn (if w.getLsbD 44 then w else readWord (w.extractLsb' 32 12))

/-- R104, R112: the ten codes name the ten micro-operations, and 10 to 15 name none. -/
def Obligations.CodesNameTheMicroOperations : Prop :=
  (∀ (c : UopCode) (i : Instr), decodeUop c = some i ↔ encodeWord i = .uop c) ∧
    ∀ c : UopCode, decodeUop c = none ↔ 10 ≤ c.toNat

/-- R101, R104, R117, the words of spec/95_test_vectors.md V5: words written out from the spec decode to
what they stand for. A sanity statement. -/
def Obligations.WordsOfTheSpecDecode : Prop :=
  decodeTableWord 48 0x1004FFFFFFE1 = some (.sett 0xFFFFFFE1#32) ∧
  decodeTableWord 48 0x100000000001 = some .start ∧
  decodeTableWord 48 0x100000000003 = some (.wr 0x000#12 3#32) ∧
  decodeTableWord 48 0x100100000002 = some .ack ∧
  decodeTableWord 48 0x101040000000 = some (.setpGvol 0x40000000#32) ∧
  decodeTableWord 48 0x1400FFFE0003 = some (.ldf 0#10 3#16 0xFFFE#16) ∧
  decodeTableWord 48 0x07FF00000000 = some (.rdf 1023#10) ∧
  decodeTableWord 48 0x000100000000 = some .rds ∧
  decodeTableWord 48 0x000700000000 = some (.rd 0x007#12) ∧
  decodeTableWord 8 0x3 = some .reverb ∧ decodeTableWord 8 0x9 = some .norm ∧
  decodeTableWord 8 0xA = none

/-! ## The step -/

/-- R80, R106: when a host transaction has the turn and its bytes decode to `i`, the step is `exec` of `i`
with that turn taken. The list of turns and the bytes of a word are the model's (log entries 2, 5). -/
def Obligations.StepRunsTheDecodedTransaction : Prop :=
  ∀ (s : State) (w : TxnWord) (rest : List Event) (i : Instr),
    s.events = .host w :: rest → decode (txnBytes w) = .ok i →
      step s = exec i { s with events := rest }

/-- R236: when the engine has the turn and is busy, and the code in `SIDX` decodes to `i`, the step is
`exec` of `i`. The engine has the turn at `Event.engine` and when no turn is listed (log entry 2). -/
def Obligations.StepRunsTheMicroOperationOfSidx : Prop :=
  ∀ (s : State) (rest : List Event) (i : Instr),
    (s.events = [] ∧ rest = [] ∨ s.events = .engine :: rest) → s.busy = true →
      decode [0#4 ++ s.sidx] = .ok i → step s = exec i { s with events := rest }

/-- What the turns do that run no operation. R280: a reset gives the reset state; that it keeps the turns still
to come is the model's (log entry 19). R236 gives an idle engine no step; that its turn is a step which changes
nothing but uses up the turn is the model's reading (log entry 3). R112 gives a busy engine at a code of 10 to 15
no step; that this is a stop by name is the model's (log entry 14). So is the engine's turn on an empty list
(log entry 2). -/
def Obligations.IdleResetAndStuckTurns : Prop :=
  (∀ (s : State) (rest : List Event),
    (s.events = [] ∧ rest = [] ∨ s.events = .engine :: rest) → s.busy = false →
      step s = .next { s with events := rest }) ∧
  (∀ (s : State) (rest : List Event), s.events = .reset :: rest →
      step s = .next { State.resetOf s.cfg with events := rest }) ∧
  (∀ (s : State) (rest : List Event), (s.events = [] ∨ s.events = .engine :: rest) →
      s.busy = true → 10 ≤ s.sidx.toNat → step s = .fault .sequencerStuck)

/-- R59, R39: the values the spec gives for reset, at the default parameters; the two open phases lie in
[0, 2π). -/
def Obligations.ResetStateHasTheValuesOfTheTable : Prop :=
  let s := State.reset
  s.inL = 0#16 ∧ s.inR = 0#16 ∧ s.dry = 0#32 ∧ s.accL = 0#32 ∧ s.accR = 0#32 ∧
  s.sidx = 0#4 ∧ s.fidx = 0#11 ∧ s.nf = 0#11 ∧ s.statusWord = 0#32 ∧ s.doneIe = false ∧
  s.nframes = 0#11 ∧ s.toggle = 0#6 ∧ s.diag = 0#7 ∧ s.peak = 0#32 ∧ s.scale = 0x3F800000#32 ∧
  s.params = ⟨0x3F800000#32, 0x3E4CCCCD#32, 0x3E99999A#32, 0x3F000000#32, 0x3E19999A#32, 0x3E99999A#32,
    0x3F800000#32, 0x3F000000#32, 0x46FFFE00#32, true⟩ ∧
  (∀ d : Fin 10, s.cursor d = 0) ∧ inTurn (s.phase 0) = true ∧ inTurn (s.phase 1) = true ∧
  s.phase 2 = 0#32 ∧ s.phase 3 = 0#32 ∧ s.phase 4 = 0#32 ∧
  (∀ (d : Fin 10) (k : Nat), s.lineEntry d k = 0#32) ∧ (∀ k : Nat, s.frame k = 0#32) ∧
  s.peakacc = 0#32 ∧ s.irq = false

/-- The invariant of Safety.lean holds of the reset state. -/
def Obligations.InvariantHoldsAtReset : Prop := State.reset.Inv

/-- R35, R36, R37, R43, R49, R51, R77, R233, R20: every step keeps the invariant, from every state that
has it. -/
def Obligations.EveryStepKeepsTheInvariant : Prop :=
  ∀ s t : State, s.Inv → step s = .next t → t.Inv

/-- R260, R230: no operation fails. From every state with the invariant, whatever the turns to come, the
next step gives a next state. -/
def Obligations.NoStepStops : Prop :=
  ∀ s : State, s.Inv → ∃ t : State, step s = .next t

/-- R60: the parameter record is no state; no step changes it. That it travels in State is the model's
(log entry 1). -/
def Obligations.NoStepChangesTheParameterRecord : Prop :=
  ∀ s t : State, step s = .next t → t.cfg = s.cfg

/-- R38, R236: how the position moves at the engine's turn, which on an empty list is the model's (log entry 2). -/
def Obligations.SequencerMovesInItsFixedOrder : Prop :=
  ∀ (s t : State) (rest : List Event),
    (s.events = [] ∨ s.events = .engine :: rest) → s.busy = true → step s = .next t →
      t.nf = s.nf ∧
      (s.sidx.toNat ≤ 7 → t.sidx = s.sidx + 1#4 ∧ t.fidx = s.fidx ∧ t.busy = true) ∧
      (s.sidx = 8#4 → t.fidx = s.fidx + 1#11 ∧ t.busy = true ∧
        t.sidx = (if s.fidx + 1#11 = s.nf then 9#4 else 0#4)) ∧
      (s.sidx = 9#4 → t.sidx = 9#4 ∧ t.fidx = s.fidx ∧ t.busy = false ∧ t.done = true)

/-- R238: a block started with `NFRAMES = n` takes exactly `9 * n + 1` engine steps; the last of them
clears `BUSY` and sets `DONE`. No host transaction falls in between: the steps are the engine's turns on the empty
list, which is the model's choice (log entry 2). -/
def Obligations.BlockTakesNineStepsAFrameAndOneMore : Prop :=
  ∀ s u : State, s.Inv → s.busy = false → s.events = [] → exec .start s = .next u →
    (∀ m : Nat, m ≤ 9 * s.nframes.toNat →
      ∃ v : State, Host.Core.run core m u = .next v ∧ v.busy = true) ∧
    ∃ t : State, Host.Core.run core (9 * s.nframes.toNat + 1) u = .next t ∧
      t.busy = false ∧ t.done = true

/-- R236, R239: without a host transaction in between, the engine's steps are the block as one function:
the frame's operations in their order for every frame that is left, then NORM. The steps are the engine's turns
on the empty list, which is the model's choice (log entry 2). -/
def Obligations.EngineStepsComputeTheBlockFunction : Prop :=
  ∀ s : State, s.Inv → s.busy = true → s.sidx = 0#4 → s.events = [] →
    Host.Core.run core (9 * s.framesLeft + 1) s = exec .norm (State.framesOp s.framesLeft s)

/-- R74, R118, R239: host reads between the engine's steps do not disturb the engine: however many there
are and wherever they fall, EFX ends in the same state as without them. The list of turns is the model's (log
entry 2). -/
def Obligations.HostReadsDoNotDisturbTheEngine : Prop :=
  ∀ (es : List Event) (s t : State),
    (∀ e ∈ es, e = .engine ∨ ∃ w : TxnWord, w.getLsbD 44 = false ∧ e = .host w) →
    Host.Core.run core es.length { s with events := es } = .next t →
      ∃ u : State, Host.Core.run core (es.count .engine)
          { s with events := List.replicate (es.count .engine) .engine } = .next u ∧ u.efx = t.efx

/-- spec/95_test_vectors.md S1, R153, R223: with every stage off and the volume at 1.0, a block without
the sample −32768 comes back as it went in, is not rescaled, raises no flag and moves no delay line,
cursor or phase, with every numerics record. No host transaction falls between START and the end of the block:
the steps are the engine's turns on the empty list, which is the model's choice (log entry 2). -/
def Obligations.AllStagesOffPassesTheBlockThrough : Prop :=
  ∀ s u : State, s.Inv → s.busy = false → s.events = [] → s.toggle = 0#6 → s.params.gvol = one →
    (∀ k : Nat, k < s.nframes.toNat →
      leftSample (s.frame k) ≠ 0x8000#16 ∧ rightSample (s.frame k) ≠ 0x8000#16) →
    exec .start s = .next u →
      ∃ t : State, Host.Core.run core (9 * s.nframes.toNat + 1) u = .next t ∧
        (∀ k : Nat, t.frame k = s.frame k) ∧ t.normed = false ∧ t.scale = one ∧ t.diag = s.diag ∧
        t.dl = s.dl ∧ t.cur = s.cur ∧ t.ph = s.ph

/-- spec/95_test_vectors.md S6: silence in, silence out, with every numerics record. With finite parameters and
finite factors of the stages every micro-operation keeps the input, the output, the accumulators and every
delay-line entry silent, and raises no flag. With the default record finite phases make the factors finite. -/
def Obligations.SilenceStaysSilence : Prop :=
  ∀ (i : Instr) (s t : State), isMicroOp i = true → s.Silent →
    (s.FiniteFactors ∨ s.cfg.num = .binary32 ∧ ∀ p : Fin 5, isFinite (s.phase p) = true) →
    exec i s = .next t → t.Silent ∧ t.diag = s.diag

/-! ## Host operations -/

/-- R233: START on an idle engine. -/
def Obligations.StartLatchesTheBlockAndSetsBusy : Prop :=
  ∀ s : State, s.busy = false →
    exec .start s = .next { s with
      nf := s.nframes, fidx := 0#11, peakacc := 0#32, done := false, busy := true
      sidx := if s.nframes = 0#11 then 9#4 else 0#4, answer := some ⟨false, 0#32⟩ }

/-- The table of R231, row by row. -/
def Obligations.WriteTransactionsFollowTheTable : Prop :=
  ∀ (s : State) (a : Addr) (d : Data),
    let ok : Option Answer := some ⟨false, 0#32⟩
    let refused : Host.Outcome State Fault Refusal := .next { s with answer := some ⟨true, 0#32⟩ }
    let unchanged : Host.Outcome State Fault Refusal := .next { s with answer := ok }
    let run := exec (.wr a d) s
    (a = 0x000#12 → d = 1#32 → s.busy = false → run = .next { s with
      nf := s.nframes, fidx := 0#11, peakacc := 0#32, done := false, busy := true
      sidx := if s.nframes = 0#11 then 9#4 else 0#4, answer := ok }) ∧
    (a = 0x000#12 → d = 1#32 → s.busy = true → run = refused) ∧
    (a = 0x000#12 → d = 0#32 → run = unchanged) ∧
    (a = 0x000#12 → 2 ≤ d.toNat → run = refused) ∧
    (a = 0x001#12 → run = .next { s with
      done := if d.getLsbD 1 then false else s.done, answer := ok }) ∧
    (a = 0x002#12 → run = .next { s with doneIe := d.getLsbD 0, answer := ok }) ∧
    (a = 0x003#12 → d.toNat ≤ s.cfg.blockMax →
      run = .next { s with nframes := d.extractLsb' 0 11, answer := ok }) ∧
    (a = 0x003#12 → s.cfg.blockMax < d.toNat → run = refused) ∧
    (a = 0x004#12 → run = .next { s with toggle := d.extractLsb' 0 6, answer := ok }) ∧
    (a = 0x005#12 → run = .next { s with diag := s.diag &&& ~~~(d.extractLsb' 0 7), answer := ok }) ∧
    (a = 0x006#12 ∨ a = 0x007#12 → run = unchanged) ∧
    (a = 0x010#12 → run = .next { s with params := { s.params with gvol := d }, answer := ok }) ∧
    (a = 0x011#12 → run = .next { s with params := { s.params with rvLevel := d }, answer := ok }) ∧
    (a = 0x012#12 → run = .next { s with params := { s.params with rvFb := d }, answer := ok }) ∧
    (a = 0x013#12 → run = .next { s with params := { s.params with rvDamp := d }, answer := ok }) ∧
    (a = 0x014#12 → run = .next { s with params := { s.params with chLevel := d }, answer := ok }) ∧
    (a = 0x015#12 → run = .next { s with params := { s.params with chDepth := d }, answer := ok }) ∧
    (a = 0x016#12 → run = .next { s with params := { s.params with chSpeed := d }, answer := ok }) ∧
    (a = 0x017#12 → run = .next { s with params := { s.params with stWidth := d }, answer := ok }) ∧
    (a = 0x018#12 → run = .next { s with params := { s.params with limThresh := d }, answer := ok }) ∧
    (a = 0x019#12 →
      run = .next { s with params := { s.params with limEn := d.getLsbD 0 }, answer := ok }) ∧
    (0x400 ≤ a.toNat → a.toNat < 0x400 + s.cfg.blockMax → s.busy = false →
      run = .next { s with blk := Memory.set 0#32 s.blk (a.toNat - 0x400) d, answer := ok }) ∧
    (0x400 ≤ a.toNat → a.toNat < 0x400 + s.cfg.blockMax → s.busy = true → run = refused) ∧
    (0x008 ≤ a.toNat → a.toNat ≤ 0x00F → run = refused) ∧
    (0x01A ≤ a.toNat → a.toNat ≤ 0x3FF → run = refused) ∧
    (0x400 + s.cfg.blockMax ≤ a.toNat → run = refused)

/-- The table of R232, row by row. A read changes nothing of EFX. -/
def Obligations.ReadTransactionsFollowTheTable : Prop :=
  ∀ (s : State) (a : Addr),
    let answers (v : Data) : Host.Outcome State Fault Refusal := .next { s with answer := some ⟨false, v⟩ }
    let refused : Host.Outcome State Fault Refusal := .next { s with answer := some ⟨true, 0#32⟩ }
    let run := exec (.rd a) s
    (a = 0x000#12 → run = answers 0#32) ∧
    (a = 0x001#12 → run =
      answers (0#29 ++ BitVec.ofBool s.normed ++ BitVec.ofBool s.done ++ BitVec.ofBool s.busy)) ∧
    (a = 0x002#12 → run = answers (0#31 ++ BitVec.ofBool s.doneIe)) ∧
    (a = 0x003#12 → run = answers (0#21 ++ s.nframes)) ∧
    (a = 0x004#12 → run = answers (0#26 ++ s.toggle)) ∧
    (a = 0x005#12 → run = answers (0#25 ++ s.diag)) ∧
    (a = 0x006#12 → run = answers s.peak) ∧
    (a = 0x007#12 → run = answers s.scale) ∧
    (a = 0x010#12 → run = answers s.params.gvol) ∧
    (a = 0x011#12 → run = answers s.params.rvLevel) ∧
    (a = 0x012#12 → run = answers s.params.rvFb) ∧
    (a = 0x013#12 → run = answers s.params.rvDamp) ∧
    (a = 0x014#12 → run = answers s.params.chLevel) ∧
    (a = 0x015#12 → run = answers s.params.chDepth) ∧
    (a = 0x016#12 → run = answers s.params.chSpeed) ∧
    (a = 0x017#12 → run = answers s.params.stWidth) ∧
    (a = 0x018#12 → run = answers s.params.limThresh) ∧
    (a = 0x019#12 → run = answers (0#31 ++ BitVec.ofBool s.params.limEn)) ∧
    (0x400 ≤ a.toNat → a.toNat < 0x400 + s.cfg.blockMax → s.busy = false →
      run = answers (s.frame (a.toNat - 0x400))) ∧
    (0x400 ≤ a.toNat → a.toNat < 0x400 + s.cfg.blockMax → s.busy = true → run = refused) ∧
    (0x008 ≤ a.toNat → a.toNat ≤ 0x00F → run = refused) ∧
    (0x01A ≤ a.toNat → a.toNat ≤ 0x3FF → run = refused) ∧
    (0x400 + s.cfg.blockMax ≤ a.toNat → run = refused)

/-- R234, R117: each named form is the `WR` or `RD` it expands to. -/
def Obligations.NamedFormsAreTheirTransactions : Prop :=
  ∀ (s : State) (d : Data) (k : BitVec 10) (l r : Sample),
    exec .start s = exec (.wr 0x000#12 1#32) s ∧ exec .ack s = exec (.wr 0x001#12 2#32) s ∧
    exec (.clrd d) s = exec (.wr 0x005#12 d) s ∧ exec (.setie d) s = exec (.wr 0x002#12 d) s ∧
    exec (.setn d) s = exec (.wr 0x003#12 d) s ∧ exec (.sett d) s = exec (.wr 0x004#12 d) s ∧
    exec (.setpGvol d) s = exec (.wr 0x010#12 d) s ∧
    exec (.setpRvLevel d) s = exec (.wr 0x011#12 d) s ∧
    exec (.setpRvFb d) s = exec (.wr 0x012#12 d) s ∧
    exec (.setpRvDamp d) s = exec (.wr 0x013#12 d) s ∧
    exec (.setpChLevel d) s = exec (.wr 0x014#12 d) s ∧
    exec (.setpChDepth d) s = exec (.wr 0x015#12 d) s ∧
    exec (.setpChSpeed d) s = exec (.wr 0x016#12 d) s ∧
    exec (.setpStWidth d) s = exec (.wr 0x017#12 d) s ∧
    exec (.setpLimThresh d) s = exec (.wr 0x018#12 d) s ∧
    exec (.setpLimEn d) s = exec (.wr 0x019#12 d) s ∧
    exec (.ldf k l r) s = exec (.wr (BitVec.ofNat 12 (0x400 + k.toNat)) (r ++ l)) s ∧
    exec (.rdf k) s = exec (.rd (BitVec.ofNat 12 (0x400 + k.toNat))) s ∧
    exec .rds s = exec (.rd 0x001#12) s

/-- R41, R42, R43, R44, R47: what ACK, SETIE, SETN, SETT and CLRD leave, in every state. -/
def Obligations.ControlRegisterFormsComplete : Prop :=
  ∀ (s : State) (d : Data),
    exec .ack s = .next { s with done := false, answer := some ⟨false, 0#32⟩ } ∧
    exec (.setie d) s = .next { s with doneIe := d.getLsbD 0, answer := some ⟨false, 0#32⟩ } ∧
    (d.toNat ≤ s.cfg.blockMax → exec (.setn d) s =
      .next { s with nframes := d.extractLsb' 0 11, answer := some ⟨false, 0#32⟩ }) ∧
    (s.cfg.blockMax < d.toNat → exec (.setn d) s = .next { s with answer := some ⟨true, 0#32⟩ }) ∧
    exec (.sett d) s = .next { s with toggle := d.extractLsb' 0 6, answer := some ⟨false, 0#32⟩ } ∧
    exec (.clrd d) s =
      .next { s with diag := s.diag &&& ~~~(d.extractLsb' 0 7), answer := some ⟨false, 0#32⟩ }

/-- R46: what the ten `SETP` forms leave, in every state: the register takes all 32 bits of the data, and
`LIM_EN` bit 0. -/
def Obligations.ParameterFormsComplete : Prop :=
  ∀ (s : State) (d : Data),
    let ok : Option Answer := some ⟨false, 0#32⟩
    exec (.setpGvol d) s = .next { s with params := { s.params with gvol := d }, answer := ok } ∧
    exec (.setpRvLevel d) s = .next { s with params := { s.params with rvLevel := d }, answer := ok } ∧
    exec (.setpRvFb d) s = .next { s with params := { s.params with rvFb := d }, answer := ok } ∧
    exec (.setpRvDamp d) s = .next { s with params := { s.params with rvDamp := d }, answer := ok } ∧
    exec (.setpChLevel d) s = .next { s with params := { s.params with chLevel := d }, answer := ok } ∧
    exec (.setpChDepth d) s = .next { s with params := { s.params with chDepth := d }, answer := ok } ∧
    exec (.setpChSpeed d) s = .next { s with params := { s.params with chSpeed := d }, answer := ok } ∧
    exec (.setpStWidth d) s = .next { s with params := { s.params with stWidth := d }, answer := ok } ∧
    exec (.setpLimThresh d) s =
      .next { s with params := { s.params with limThresh := d }, answer := ok } ∧
    exec (.setpLimEn d) s =
      .next { s with params := { s.params with limEn := d.getLsbD 0 }, answer := ok }

/-- R54, R234: LDF, RDF on an idle engine for an entry of `BLK`, and RDS in every state. -/
def Obligations.FrameAndStatusFormsComplete : Prop :=
  ∀ (s : State) (k : BitVec 10) (l r : Sample),
    (s.busy = false → k.toNat < s.cfg.blockMax →
      exec (.ldf k l r) s = .next { s with
        blk := Memory.set 0#32 s.blk k.toNat (r ++ l), answer := some ⟨false, 0#32⟩ } ∧
      exec (.rdf k) s = .next { s with answer := some ⟨false, s.frame k.toNat⟩ }) ∧
    exec .rds s = .next { s with answer := some ⟨false,
      0#29 ++ BitVec.ofBool s.normed ++ BitVec.ofBool s.done ++ BitVec.ofBool s.busy⟩ }

/-- R54, R231, R232, R287: while the engine is busy, and for an entry that does not exist, LDF and RDF are
refused and nothing of EFX changes. -/
def Obligations.BlockMemoryIsClosedWhileBusy : Prop :=
  ∀ (s : State) (k : BitVec 10) (l r : Sample), (s.busy = true ∨ s.cfg.blockMax ≤ k.toNat) →
    exec (.ldf k l r) s = .next { s with answer := some ⟨true, 0#32⟩ } ∧
    exec (.rdf k) s = .next { s with answer := some ⟨true, 0#32⟩ }

/-- R262, R110: a transaction answers `err = 1` in exactly the five port cases, and then nothing of EFX
changes. -/
def Obligations.RefusalHasExactlyFiveCauses : Prop :=
  ∀ (s t : State) (a : Addr) (d : Data),
    let unmapped := (0x008 ≤ a.toNat ∧ a.toNat ≤ 0x00F) ∨ (0x01A ≤ a.toNat ∧ a.toNat ≤ 0x3FF) ∨
      (0x400 + s.cfg.blockMax ≤ a.toNat)
    let blkWhileBusy := 0x400 ≤ a.toNat ∧ a.toNat < 0x400 + s.cfg.blockMax ∧ s.busy = true
    let startWhileBusy := a = 0x000#12 ∧ d = 1#32 ∧ s.busy = true
    let badCommand := a = 0x000#12 ∧ 2 ≤ d.toNat
    let tooManyFrames := a = 0x003#12 ∧ s.cfg.blockMax < d.toNat
    (exec (.wr a d) s = .next t →
      ((∃ v, t.answer = some ⟨true, v⟩) ↔
        unmapped ∨ blkWhileBusy ∨ startWhileBusy ∨ badCommand ∨ tooManyFrames) ∧
      ((∃ v, t.answer = some ⟨true, v⟩) → t = { s with answer := some ⟨true, 0#32⟩ })) ∧
    (exec (.rd a) s = .next t →
      ((∃ v, t.answer = some ⟨true, v⟩) ↔ unmapped ∨ blkWhileBusy) ∧
      ((∃ v, t.answer = some ⟨true, v⟩) → t = { s with answer := some ⟨true, 0#32⟩ }))

/-- R230, R34: no transaction changes the datapath latches, the delay lines, the cursors, the phases, the
working block, `PEAK`, `SCALE` or `STATUS.NORM`, or sets a bit of `DIAG`; only START moves the
sequencer. -/
def Obligations.TransactionsLeaveTheEngineAlone : Prop :=
  ∀ (i : Instr) (s t : State), isMicroOp i = false → exec i s = .next t →
    t.inL = s.inL ∧ t.inR = s.inR ∧ t.accL = s.accL ∧ t.accR = s.accR ∧ t.dry = s.dry ∧
    t.cur = s.cur ∧ t.ph = s.ph ∧ t.dl = s.dl ∧ t.wbuf = s.wbuf ∧
    t.peak = s.peak ∧ t.scale = s.scale ∧ t.normed = s.normed ∧ t.diag &&& ~~~s.diag = 0#7 ∧
    t.cfg = s.cfg ∧ t.events = s.events ∧
    (encodeWord i ≠ .txn (writeWord 0x000#12 1#32) →
      t.busy = s.busy ∧ t.sidx = s.sidx ∧ t.fidx = s.fidx ∧ t.nf = s.nf ∧ t.peakacc = s.peakacc)

/-- R54, R74: which entries of memory a transaction changes: only the `BLK` entry that the address of a
write names; every other entry of every space reads as before. -/
def Obligations.TransactionsStoreOnlyTheNamedFrame : Prop :=
  ∀ (i : Instr) (s t : State), isMicroOp i = false → exec i s = .next t →
    (∀ (d : Fin 10) (k : Nat), t.lineEntry d k = s.lineEntry d k) ∧
    (∀ k : Nat, t.workFrame? k = s.workFrame? k) ∧
    (∀ k : Nat, (∀ a d, i = .wr a d → hostTarget s.cfg a ≠ .blk k) →
      (∀ j l r, i = .ldf j l r → hostTarget s.cfg (frameAddr j) ≠ .blk k) → t.frame k = s.frame k)

/-- R46, R232: a parameter reads back exactly the bits written, a NaN with its payload too. -/
def Obligations.ParametersReadBackTheBitsWritten : Prop :=
  ∀ (s t : State) (a : Addr) (d : Data), 0x010 ≤ a.toNat → a.toNat ≤ 0x018 →
    exec (.wr a d) s = .next t → exec (.rd a) t = .next { t with answer := some ⟨false, d⟩ }

/-- R57, R263: the wire `irq` rises with the completion of a block when enabled, and falls at START, at
ACK and when the enable is cleared, which leaves `DONE` as it is; no other micro-operation moves it. -/
def Obligations.InterruptFollowsCompletion : Prop :=
  ∀ s t : State,
    (exec .norm s = .next t → t.irq = s.doneIe ∧ t.done = true) ∧
    (s.busy = false → exec .start s = .next t → t.irq = false) ∧
    (exec .ack s = .next t → t.irq = false) ∧
    (∀ d : Data, d.getLsbD 0 = false → exec (.setie d) s = .next t → t.irq = false ∧ t.done = s.done) ∧
    (∀ i : Instr, isMicroOp i = true → i ≠ .norm → exec i s = .next t → t.irq = s.irq)

/-! ## Micro-operations

The operations `s.fadd`, `s.fmul` and so on are those of the numerics record that `CFG` chooses, by default those
of binary32 (R6, R21). -/

/-- R150: LOAD, for a frame of the block memory. -/
def Obligations.LoadLatchesTheFrameAndItsDownmix : Prop :=
  ∀ s : State, s.fidx.toNat < s.cfg.blockMax →
    let w := s.frame s.fidx.toNat
    let l : Sample := w.extractLsb' 0 16
    let r : Sample := w.extractLsb' 16 16
    exec .load s = .next { s with
      inL := l, inR := r, dry := s.fmul (s.fadd (s.i2f l.toInt) (s.i2f r.toInt)) half, sidx := 1#4 }

/-- R151, R210: VOL, in every state. -/
def Obligations.VolumeScalesTheInput : Prop :=
  ∀ s : State,
    let l := s.fmul (s.i2f s.inL.toInt) s.params.gvol
    let r := s.fmul (s.i2f s.inR.toInt) s.params.gvol
    exec .vol s = .next { s with
      accL := l, accR := r, sidx := 2#4
      diag := if s.oor l || s.oor r then s.diag ||| 0b0000001#7 else s.diag }

/-- R160: ECHO, on and off. -/
def Obligations.EchoAddsTheDelayedDrySignal : Prop :=
  ∀ s : State, s.cursor 0 < s.lineSize 0 →
    let t := s.fmul gEcho (s.lineEntry 0 (s.cursor 0))
    let l := s.fadd s.accL t
    let r := s.fadd s.accR t
    (s.toggle.getLsbD 0 = true → exec .echo s = .next { s with
      accL := l, accR := r
      dl := s.dl.set 0 (Memory.set 0#32 s.dl[0] (s.cursor 0) s.dry)
      cur := s.cur.set 0 ((s.cursor 0 + 1) % s.lineSize 0)
      diag := if s.oor l || s.oor r then s.diag ||| 0b0000010#7 else s.diag
      sidx := 3#4 }) ∧
    (s.toggle.getLsbD 0 = false → exec .echo s = .next { s with sidx := 3#4 })

/-- R165: REVERB, on and off. All five lines take the one value `w`, made from the sum before the mix
factor. -/
def Obligations.ReverbFeedsBackOneSum : Prop :=
  ∀ s : State, (∀ d : Fin 10, d ∈ [1, 2, 3, 4, 5] → s.cursor d < s.lineSize d) →
    let tap (d : Fin 10) := s.lineEntry d (s.cursor d)
    let k := s.fsub one s.params.rvDamp
    let sum := s.fadd (s.fadd (s.fadd (s.fadd (s.fmul gRv1 (tap 1)) (s.fmul gRv2 (tap 2))) (s.fmul gRv3 (tap 3)))
      (s.fmul (s.fmul gRv4 k) (tap 4))) (s.fmul (s.fmul gRv5 k) (tap 5))
    let l := s.fadd s.accL (s.fmul gRvMix sum)
    let r := s.fadd s.accR (s.fmul gRvMix sum)
    let w := s.fadd s.dry (s.fmul s.params.rvFb sum)
    (s.toggle.getLsbD 1 = true → ∃ t : State, exec .reverb s = .next t ∧
      t = { s with
        accL := l, accR := r, sidx := 4#4, dl := t.dl, cur := t.cur
        diag := if s.oor l || s.oor r then s.diag ||| 0b0000100#7 else s.diag } ∧
      (∀ d : Fin 10, d ∈ [1, 2, 3, 4, 5] → t.cursor d = (s.cursor d + 1) % s.lineSize d ∧
        ∀ j : Nat, t.lineEntry d j = if j = s.cursor d then w else s.lineEntry d j) ∧
      (∀ d : Fin 10, d ∉ [1, 2, 3, 4, 5] → t.cursor d = s.cursor d ∧
        ∀ j : Nat, t.lineEntry d j = s.lineEntry d j)) ∧
    (s.toggle.getLsbD 1 = false → exec .reverb s = .next { s with sidx := 4#4 })

/-- R180, R136: CHORUS, on and off. The taps are the entries at the cursors; the phases are used before
they advance. -/
def Obligations.ChorusMixesThreeModulatedVoices : Prop :=
  ∀ s : State, (∀ d : Fin 10, d ∈ [6, 7, 8] → s.cursor d < s.lineSize d) →
    let tap (d : Fin 10) := s.lineEntry d (s.cursor d)
    let modulator (p : Fin 5) := s.fadd chBias (s.fmul s.params.chDepth (s.sin (s.phase p)))
    let c := s.fadd (s.fadd (s.fmul (s.fmul gCh1 (tap 6)) (modulator 0)) (s.fmul (s.fmul gCh2 (tap 7)) (modulator 1)))
      (s.fmul (s.fmul gCh3 (tap 8)) (modulator 2))
    let o := s.fmul gChMix c
    let l := s.fadd s.accL o
    let r := s.fadd s.accR o
    let inc := s.fdiv (s.fmul twoPi s.params.chSpeed) (s.i2f s.cfg.sr)
    (s.toggle.getLsbD 2 = true → ∃ t : State, exec .chorus s = .next t ∧
      t = { s with
        accL := l, accR := r, sidx := 5#4, dl := t.dl, cur := t.cur, ph := t.ph
        diag := if s.oor l || s.oor r then s.diag ||| 0b0001000#7 else s.diag } ∧
      (∀ d : Fin 10, d ∈ [6, 7, 8] → t.cursor d = (s.cursor d + 1) % s.lineSize d ∧
        ∀ j : Nat, t.lineEntry d j = if j = s.cursor d then s.dry else s.lineEntry d j) ∧
      (∀ d : Fin 10, d ∉ [6, 7, 8] → t.cursor d = s.cursor d ∧
        ∀ j : Nat, t.lineEntry d j = s.lineEntry d j) ∧
      (∀ p : Fin 5, t.phase p =
        if p.val < 3 then s.wrap (s.fadd (s.phase p) inc) else s.phase p)) ∧
    (s.toggle.getLsbD 2 = false → exec .chorus s = .next { s with sidx := 5#4 })

/-- R190: VIBRATO, on and off. The rate is the constant 3 Hz. -/
def Obligations.VibratoModulatesTheAccumulators : Prop :=
  ∀ s : State,
    let m := s.fadd one (s.fmul vibDepth (s.sin (s.phase 3)))
    let l := s.fmul s.accL m
    let r := s.fmul s.accR m
    (s.toggle.getLsbD 3 = true → exec .vibrato s = .next { s with
      accL := l, accR := r, sidx := 6#4
      ph := s.ph.set 3 (s.wrap (s.fadd (s.phase 3) (s.fdiv (s.fmul twoPi fLfo) (s.i2f s.cfg.sr))))
      diag := if s.oor l || s.oor r then s.diag ||| 0b0010000#7 else s.diag }) ∧
    (s.toggle.getLsbD 3 = false → exec .vibrato s = .next { s with sidx := 6#4 })

/-- R195: TREMOLO, on and off. The rate is the constant 3 Hz. -/
def Obligations.TremoloModulatesTheAccumulators : Prop :=
  ∀ s : State,
    let m := s.fadd trmBias (s.fmul trmDepth (s.sin (s.phase 4)))
    let l := s.fmul s.accL m
    let r := s.fmul s.accR m
    (s.toggle.getLsbD 4 = true → exec .tremolo s = .next { s with
      accL := l, accR := r, sidx := 7#4
      ph := s.ph.set 4 (s.wrap (s.fadd (s.phase 4) (s.fdiv (s.fmul twoPi fLfo) (s.i2f s.cfg.sr))))
      diag := if s.oor l || s.oor r then s.diag ||| 0b0100000#7 else s.diag }) ∧
    (s.toggle.getLsbD 4 = false → exec .tremolo s = .next { s with sidx := 7#4 })

/-- R200: STEREO, on and off. The one tap is added on the left and subtracted on the right. -/
def Obligations.WidenerAddsLeftAndSubtractsRight : Prop :=
  ∀ s : State, s.cursor 9 < s.lineSize 9 →
    let t := s.fmul gSt (s.lineEntry 9 (s.cursor 9))
    let l := s.fadd s.accL t
    let r := s.fsub s.accR t
    (s.toggle.getLsbD 5 = true → exec .stereo s = .next { s with
      accL := l, accR := r
      dl := s.dl.set 9 (Memory.set 0#32 s.dl[9] (s.cursor 9) s.dry)
      cur := s.cur.set 9 ((s.cursor 9 + 1) % s.lineSize 9)
      diag := if s.oor l || s.oor r then s.diag ||| 0b1000000#7 else s.diag
      sidx := 8#4 }) ∧
    (s.toggle.getLsbD 5 = false → exec .stereo s = .next { s with sidx := 8#4 })

/-- R237, R135: a stage whose toggle is 0 changes `SIDX` and nothing else, in every state. -/
def Obligations.DisabledStagesOnlyMoveTheSequencer : Prop :=
  ∀ (i : Instr) (bit : Nat) (s : State),
    (i, bit) ∈ [(Instr.echo, 0), (.reverb, 1), (.chorus, 2), (.vibrato, 3), (.tremolo, 4), (.stereo, 5)] →
      s.toggle.getLsbD bit = false →
        exec i s = .next { s with sidx := BitVec.ofNat 4 (bit + 3) }

/-- R215: STORE, for an entry of the working block. -/
def Obligations.StoreQuantisesAndTracksThePeak : Prop :=
  ∀ s : State, s.fidx.toNat < s.cfg.blockMax →
    ∃ t : State, exec .store s = .next t ∧
      t = { s with
        wbuf := t.wbuf, peakacc := t.peakacc, fidx := s.fidx + 1#11
        sidx := if s.fidx + 1#11 = s.nf then 9#4 else 0#4 } ∧
      (∀ k : Nat, t.workFrame? k =
        if k = s.fidx.toNat then some (s.f2i s.accL, s.f2i s.accR) else s.workFrame? k) ∧
      t.peakacc.toNat = max (max s.peakacc.toNat (s.f2i s.accL).toInt.natAbs) (s.f2i s.accR).toInt.natAbs

/-- R220: NORM, when the frames of the block have been stored. Every frame below `NF`
leaves by the one factor or, at a peak of at most 32767, as it is; every entry from `NF` on is
untouched. -/
def Obligations.NormRescalesTheWholeBlock : Prop :=
  ∀ s : State, s.nf.toNat ≤ s.cfg.blockMax →
    (∀ k : Nat, k < s.nf.toNat → ∃ w, s.workFrame? k = some w) →
    let sc := s.fdiv ceiling (s.u2f s.peakacc.toNat)
    let rescaled (w : BitVec 32) : Sample := sat16 (s.f2i (s.fmul (s.i2f w.toInt) sc))
    ∃ t : State, exec .norm s = .next t ∧
      t = { s with
        blk := t.blk, scale := if 32767 < s.peakacc.toNat then sc else one
        normed := decide (32767 < s.peakacc.toNat), peak := s.peakacc, done := true, busy := false } ∧
      (∀ (k : Nat) (w : WorkFrame), k < s.nf.toNat → s.workFrame? k = some w →
        t.frame k =
          if 32767 < s.peakacc.toNat then rescaled w.2 ++ rescaled w.1 else sat16 w.2 ++ sat16 w.1) ∧
      (∀ k : Nat, s.nf.toNat ≤ k → t.frame k = s.frame k)

/-- R222: with the default record the samples NORM hands back lie in [−32767, 32767] and the narrowing never
changes its argument, for a frame that the peak bounds. -/
def Obligations.RescaledSamplesStayInRange : Prop :=
  ∀ (s : State) (w : BitVec 32), s.cfg.num = .binary32 → (absInt w).toNat ≤ s.peakacc.toNat → s.peakacc.toNat ≤ 2 ^ 31 →
    let x := if 32767 < s.peakacc.toNat then
      s.f2i (s.fmul (s.i2f w.toInt) (s.fdiv ceiling (s.u2f s.peakacc.toNat))) else w
    (-32767 ≤ x.toInt ∧ x.toInt ≤ 32767) ∧ (sat16 x).toInt = x.toInt ∧ s.outSample w = sat16 x

/-- R53, R54, R56, R89: which entries of memory a micro-operation changes: the entry at the cursor of each
line it owns, `WBUF[FIDX]` for STORE, `BLK` below `NF` for NORM; every other entry reads as before, and
only owned cursors move. -/
def Obligations.MicroOperationsStoreOnlyWhatTheyOwn : Prop :=
  ∀ (i : Instr) (s t : State), isMicroOp i = true → exec i s = .next t →
    (∀ (d : Fin 10) (k : Nat), (d ∉ ownedLines i ∨ k ≠ s.cursor d) →
      t.lineEntry d k = s.lineEntry d k) ∧
    (∀ d : Fin 10, d ∉ ownedLines i → t.cursor d = s.cursor d) ∧
    (∀ k : Nat, (i ≠ .store ∨ k ≠ s.fidx.toNat) → t.workFrame? k = s.workFrame? k) ∧
    (∀ k : Nat, (i ≠ .norm ∨ s.nf.toNat ≤ k) → t.frame k = s.frame k)

/-- R44, R46, R47, R58: no micro-operation clears a bit of `DIAG` or writes `TOGGLE`, a parameter, `IE` or
`NFRAMES`. -/
def Obligations.EngineOnlySetsDiagnosticsAndWritesNoControl : Prop :=
  ∀ (i : Instr) (s t : State), isMicroOp i = true → exec i s = .next t →
    t.diag &&& s.diag = s.diag ∧ t.toggle = s.toggle ∧ t.params = s.params ∧ t.doneIe = s.doneIe ∧
    t.nframes = s.nframes

/-- R48, R225: no micro-operation reads `RV_LEVEL`, `CH_LEVEL`, `ST_WIDTH`, `LIM_THRESH` or `LIM_EN`:
other values there give the same result. -/
def Obligations.StorageOnlyParametersAreNeverRead : Prop :=
  ∀ (i : Instr) (s t : State) (p : ParamRegs), isMicroOp i = true →
    p.gvol = s.params.gvol → p.rvFb = s.params.rvFb → p.rvDamp = s.params.rvDamp →
    p.chDepth = s.params.chDepth → p.chSpeed = s.params.chSpeed →
      exec i s = .next t → exec i { s with params := p } = .next { t with params := p }

/-- R47, R274: `DIAG`, `PEAK`, `SCALE` and `STATUS.NORM` are observability only: states that agree but for
them give results that agree but for them. -/
def Obligations.DiagnosticsDoNotReachTheDatapath : Prop :=
  ∀ (i : Instr) (s s' t : State), isMicroOp i = true → s.functional = s'.functional →
    exec i s = .next t → ∃ t' : State, exec i s' = .next t' ∧ t'.functional = t.functional

/-! ## Delay lines and phases -/

/-- R131, R130: `DL.write_adv` stores at the cursor, moves the cursor by one modulo the capacity, and
touches no other entry and no other line. -/
def Obligations.WriteAdvanceStoresAtTheCursor : Prop :=
  ∀ (s : State) (d e : Fin 10) (v : F) (k : Nat),
    let t := s.lineWriteAdv d v
    t.lineEntry e k = (if e = d ∧ k = s.cursor d then v else s.lineEntry e k) ∧
    t.cursor e = (if e = d then (s.cursor d + 1) % s.lineSize d else s.cursor e) ∧
    t = { s with dl := t.dl, cur := t.cur }

/-- R133, R134: the delay law. After any writes into a line, the entry `k` behind the cursor is the value
written `k` writes ago, up to the full capacity, and the cursor has moved by the number of writes. -/
def Obligations.LineReturnsWhatWasWrittenBefore : Prop :=
  ∀ (s : State) (d : Fin 10) (xs ys : List F) (v : F),
    s.cursor d < s.lineSize d → ys.length + 1 ≤ s.lineSize d →
      let t := (xs ++ v :: ys).foldl (fun u x => u.lineWriteAdv d x) s
      t.lineRead d (ys.length + 1) = v ∧
      t.cursor d = (s.cursor d + (xs ++ v :: ys).length) % s.lineSize d

/-- R130, R136: the offsets 0, `N[d]` and `N[d] mod N[d]` all name the entry at the cursor. -/
def Obligations.ChorusOffsetIsTheCursor : Prop :=
  ∀ (s : State) (d : Fin 10), s.cursor d < s.lineSize d →
    s.lineRead d (s.lineSize d % s.lineSize d) = s.lineEntry d (s.cursor d) ∧
    s.lineRead d (s.lineSize d) = s.lineEntry d (s.cursor d) ∧
    s.lineRead d 0 = s.lineEntry d (s.cursor d)

/-- R138, R139: with the default record a phase in [0, 2π) advanced by an increment in [0, 2π) stays there. -/
def Obligations.WrappedPhaseStaysInTheTurn : Prop :=
  ∀ (s : State) (x inc : F), s.cfg.num = .binary32 → inTurn x = true → inTurn inc = true →
    inTurn (s.wrap (s.fadd x inc)) = true

/-- R139: with the default record the vibrato and tremolo phases stay in [0, 2π) at every step when `SR > 3`. -/
def Obligations.LowFrequencyPhasesStayInTheTurn : Prop :=
  ∀ s t : State, s.cfg.num = .binary32 → 3 < s.cfg.sr → inTurn (s.phase 3) = true → inTurn (s.phase 4) = true →
    step s = .next t → inTurn (t.phase 3) = true ∧ inTurn (t.phase 4) = true

/-! ## Numerics -/

/-- R11, the default record: a finite result of the one rounding is a value of `F` nearest to `n / d` units, and at a tie the
one with an even pattern. -/
def Obligations.RoundingIsToNearestTiesToEven : Prop :=
  ∀ n d : Nat, 0 < d → roundMag n d < 0x7F800000 → ∀ m : Nat, m < 0x7F800000 →
    let off (p : Nat) : Nat := ((n : Int) - d * magUnits (BitVec.ofNat 32 p)).natAbs
    off (roundMag n d) ≤ off m ∧
      (off (roundMag n d) = off m → m ≠ roundMag n d → roundMag n d % 2 = 0)

/-- R12, R13, the default record: integers up to `2^24` in magnitude are exact in `F` and come back unchanged. -/
def Obligations.SmallIntegersAreExact : Prop :=
  ∀ i : Int, i.natAbs ≤ 2 ^ 24 →
    isFinite (i2f i) = true ∧ units (i2f i) = i * 2 ^ 149 ∧ (f2i (i2f i)).toInt = i

/-- R13, the default record: `f2i` is the value with its fraction discarded, held to the signed 32-bit range; a NaN gives 0. -/
def Obligations.QuantisationTruncatesAndSaturates : Prop :=
  ∀ x : F, (f2i x).toInt =
    if isNaN x then 0 else max (-(2 ^ 31)) (min (2 ^ 31 - 1) (Int.tdiv (units x) (2 ^ 149)))

/-- R15, the default record: `oor` is true of a NaN and of what lies outside [−32768, 32767]; an infinity lies outside. -/
def Obligations.OutOfRangeIsOutsideTheSampleRange : Prop :=
  ∀ x : F, oor x = true ↔
    isNaN x = true ∨ units x < -32768 * 2 ^ 149 ∨ 32767 * 2 ^ 149 < units x

/-- R22: the mono downmix is the exact mean of the two samples, with the default record. -/
def Obligations.MonoIsTheExactMean : Prop :=
  ∀ (s : State) (l r : Sample), s.cfg.num = .binary32 → isFinite (s.mono l r) = true ∧
    2 * units (s.mono l r) = (l.toInt + r.toInt) * 2 ^ 149

/-- R21: the laws that every numerics record obeys, the default and each other one: a zero times a finite value
is a zero; two zeros add up to a zero; a zero quantises to 0; `i2f` and halving are exact on 17-bit integers;
multiplication by 1.0 gives every value back (of binary32: every value that is no NaN); a 16-bit integer
comes back from `F` unchanged. That a value of another record is named by a 32-bit pattern, and the classes of
the patterns, are the model's (log entry 16). -/
def Obligations.NumericsRecordObeysItsLaws : Prop :=
  ∀ n : NumChoice,
    (∀ x : F, isFinite x = true →
      isZero (numMul n (numI2f n 0) x) = true ∧ isZero (numMul n x (numI2f n 0)) = true) ∧
    (∀ x y : F, isZero x = true → isZero y = true → isZero (numAdd n x y) = true) ∧
    (∀ x : F, isZero x = true → numF2i n x = 0#32) ∧
    (∀ i : Int, -65536 ≤ i → i < 65536 →
      units (numI2f n i) = i * 2 ^ 149 ∧ 2 * units (numMul n (numI2f n i) half) = i * 2 ^ 149) ∧
    (∀ x : F, (n = .binary32 → isNaN x = false) → numMul n x one = x) ∧
    (∀ i : Int, -32768 ≤ i → i ≤ 32767 → (numF2i n (numI2f n i)).toInt = i)

/-- R18: the laws of `SIN`, for every numerics record, the default sine and every other choice; the range is
taken by the record's own comparison. -/
def Obligations.SineObeysItsLaws : Prop :=
  ∀ (n : NumChoice) (c : SinChoice) (x : F),
    numSin n c 0#32 = 0#32 ∧ (isFinite x = false → isNaN (numSin n c x) = true) ∧
    (isFinite x = true → numGe n (numSin n c x) (numI2f n (-1)) = true ∧
      numGe n (numI2f n 1) (numSin n c x) = true)

/-- R200, the default record: subtracting `0.5 · s` is adding `−0.5 · s`, bit for bit, wherever the result is no NaN. -/
def Obligations.SubtractingIsAddingTheNegatedProduct : Prop :=
  ∀ a x : F, isNaN (fsub a (fmul 0x3F000000#32 x)) = false →
    fsub a (fmul 0x3F000000#32 x) = fadd a (fmul 0xBF000000#32 x)
end

