-- ==== Sys2Proof/Laws/HostOps.lean ====
section
/-! SUPPORT. What an address of the host space names, once for every range of the map (R39, R110), and what
the bytes of an encoding are. -/

namespace Sys2Proof.Machine

/-- An address of the `BLK` window with an entry behind it. -/
theorem hostTarget_blk {c : Cfg} {a : Addr} (lo : 0x400 ≤ a.toNat) (hi : a.toNat < 0x400 + c.blockMax) :
    hostTarget c a = .blk (a.toNat - 0x400) := by
  unfold hostTarget
  repeat rw [if_neg (by rintro rfl; simp at lo)]
  rw [if_pos ⟨lo, hi⟩]

/-- An address past the `BLK` window. -/
theorem hostTarget_past {c : Cfg} {a : Addr} (h : 0x400 + c.blockMax ≤ a.toNat) :
    hostTarget c a = .unmapped := by
  have lo : 0x400 ≤ a.toNat := by omega
  unfold hostTarget
  repeat rw [if_neg (by rintro rfl; simp at lo)]
  rw [if_neg (by omega)]

/-- The hole between the control and the parameter registers. -/
theorem hostTarget_lowHole {c : Cfg} {a : Addr} (lo : 0x008 ≤ a.toNat) (hi : a.toNat ≤ 0x00F) :
    hostTarget c a = .unmapped := by
  unfold hostTarget
  repeat rw [if_neg (by rintro rfl; simp at lo hi)]
  rw [if_neg (by omega)]

/-- The hole between the parameter registers and the `BLK` window. -/
theorem hostTarget_highHole {c : Cfg} {a : Addr} (lo : 0x01A ≤ a.toNat) (hi : a.toNat ≤ 0x3FF) :
    hostTarget c a = .unmapped := by
  unfold hostTarget
  repeat rw [if_neg (by rintro rfl; simp at lo hi)]
  rw [if_neg (by omega)]

/-- Where `BLK[k]` stands in the host space (R54). -/
theorem toNat_frameAddr (k : BitVec 10) : (frameAddr k).toNat = 0x400 + k.toNat := by
  have h := Nat.two_pow_add_eq_or_of_lt (i := 10) k.isLt 1
  rw [frameAddr, BitVec.toNat_append]
  simpa using h.symm

theorem hostTarget_frameAddr {c : Cfg} {k : BitVec 10} (h : k.toNat < c.blockMax) :
    hostTarget c (frameAddr k) = .blk k.toNat := by
  rw [hostTarget_blk (by rw [toNat_frameAddr]; omega) (by rw [toNat_frameAddr]; omega), toNat_frameAddr,
    Nat.add_sub_cancel_left]

theorem hostTarget_frameAddr_past {c : Cfg} {k : BitVec 10} (h : c.blockMax ≤ k.toNat) :
    hostTarget c (frameAddr k) = .unmapped := hostTarget_past (by rw [toNat_frameAddr]; omega)

/-- A `BLK` target is in the window and names an entry. -/
theorem hostTarget_eq_blk {c : Cfg} {a : Addr} {k : Nat} (h : hostTarget c a = .blk k) :
    a.toNat = 0x400 + k ∧ k < c.blockMax := by
  have skip : ∀ {p : Prop} [Decidable p] {t e : Target}, (if p then t else e) = .blk k → t ≠ .blk k →
      e = .blk k := by
    intro p _ t e h ht
    split at h
    · exact absurd h ht
    · exact h
  unfold hostTarget at h
  iterate 18 replace h := skip h (by intro ht; cases ht)
  by_cases w : 0x400 ≤ a.toNat ∧ a.toNat < 0x400 + c.blockMax
  · rw [if_pos w] at h
    have hk : a.toNat - 0x400 = k := Target.blk.inj h
    omega
  · rw [if_neg w] at h
    cases h

/-- The bytes of a transaction word decode to what the word is read as (log entry 5). -/
theorem decode_txnBytes (w : TxnWord) : decode (txnBytes w) = .ok (decodeTxn w) := by
  have top : (0#3 ++ w.extractLsb' 40 5).extractLsb' 5 3 = 0#3 := by
    apply BitVec.eq_of_getLsbD_eq
    intro i hi
    simp only [BitVec.getLsbD_append, BitVec.getLsbD_extractLsb']
    interval_cases i <;> simp
  have all : (0#3 ++ w.extractLsb' 40 5).extractLsb' 0 5 ++ w.extractLsb' 32 8 ++ w.extractLsb' 24 8 ++
      w.extractLsb' 16 8 ++ w.extractLsb' 8 8 ++ w.extractLsb' 0 8 = w := by
    apply BitVec.eq_of_getLsbD_eq
    intro i hi
    simp only [BitVec.getLsbD_append, BitVec.getLsbD_extractLsb']
    interval_cases i <;> simp
  simp only [decode, txnBytes, top, if_true, all]

end Sys2Proof.Machine
end

