-- ==== Sys2Proof/Laws/Memory.lean ====
section
/-! SUPPORT. The laws of the memories: a read after a write, and the canonical form kept by every
operation. -/

namespace Sys2Proof.Machine

variable {α : Type}

/-! ### Reading after writing -/

@[simp] theorem Memory.find?_nil (a : Nat) : Memory.find? ([] : Memory α) a = none := rfl

theorem Memory.find?_cons (b : Nat) (v : α) (m : Memory α) (a : Nat) :
    Memory.find? ((b, v) :: m) a = if b = a then some v else Memory.find? m a := rfl

theorem Memory.find?_put (m : Memory α) (a b : Nat) (v : α) :
    Memory.find? (Memory.put m a v) b = if b = a then some v else Memory.find? m b := by
  induction m with
  | nil => simp [Memory.put, Memory.find?, eq_comm]
  | cons e m ih =>
    obtain ⟨c, w⟩ := e
    rw [Memory.put, Memory.find?_cons]
    rcases lt_trichotomy a c with h | h | h
    · rw [if_pos h, Memory.find?_cons, Memory.find?_cons]
      simp only [eq_comm]
    · subst h
      rw [if_neg (lt_irrefl a), if_pos rfl, Memory.find?_cons]
      by_cases hb : b = a
      · simp [hb]
      · simp [hb, Ne.symm hb]
    · rw [if_neg (by omega), if_neg (by omega), Memory.find?_cons, ih]
      by_cases hb : c = b
      · have : b ≠ a := by omega
        simp [hb, this]
      · simp [hb]

theorem Memory.find?_drop (m : Memory α) (a b : Nat) :
    Memory.find? (Memory.drop m a) b = if b = a then none else Memory.find? m b := by
  induction m with
  | nil => simp [Memory.drop, Memory.find?]
  | cons e m ih =>
    obtain ⟨c, w⟩ := e
    simp only [Memory.drop] at ih ⊢
    by_cases hc : c = a
    · subst hc
      simp only [List.filter_cons, bne_self_eq_false, Bool.false_eq_true, if_false, ih, Memory.find?_cons]
      by_cases hb : b = c
      · simp [hb]
      · simp [hb, Ne.symm hb]
    · have hne : (c != a) = true := by simpa using hc
      simp only [List.filter_cons, hne, if_true, Memory.find?_cons, ih]
      by_cases hb : c = b
      · subst hb; simp [hc]
      · simp [hb]

/-- A read after a write to a space with a value at every index. -/
theorem Memory.get_set [DecidableEq α] (d : α) (m : Memory α) (a b : Nat) (v : α) :
    Memory.get d (Memory.set d m a v) b = if b = a then v else Memory.get d m b := by
  unfold Memory.get Memory.set
  by_cases hv : v = d
  · rw [if_pos hv, Memory.find?_drop]
    by_cases hb : b = a <;> simp [hb, hv]
  · rw [if_neg hv, Memory.find?_put]
    by_cases hb : b = a <;> simp [hb]

@[simp] theorem Memory.get_set_same [DecidableEq α] (d : α) (m : Memory α) (a : Nat) (v : α) :
    Memory.get d (Memory.set d m a v) a = v := by
  rw [Memory.get_set, if_pos rfl]

theorem Memory.get_set_other [DecidableEq α] (d : α) (m : Memory α) {a b : Nat} (v : α) (h : b ≠ a) :
    Memory.get d (Memory.set d m a v) b = Memory.get d m b := by
  rw [Memory.get_set, if_neg h]

/-! ### The canonical form -/

theorem Memory.rising_cons (a : Nat) (v : α) (m : Memory α) :
    Memory.rising ((a, v) :: m) = true ↔ (∀ e ∈ m, a < e.1) ∧ Memory.rising m = true := by
  induction m generalizing a v with
  | nil => simp [Memory.rising]
  | cons e m ih =>
    obtain ⟨b, w⟩ := e
    have hun : Memory.rising ((a, v) :: (b, w) :: m) = true ↔
        a < b ∧ Memory.rising ((b, w) :: m) = true := by
      simp [Memory.rising]
    rw [hun]
    constructor
    · rintro ⟨hab, hr⟩
      refine ⟨?_, hr⟩
      intro e he
      rcases List.mem_cons.mp he with rfl | he
      · exact hab
      · exact lt_trans hab (((ih b w).mp hr).1 e he)
    · rintro ⟨hall, hr⟩
      exact ⟨hall (b, w) (List.mem_cons_self ..), hr⟩

theorem Memory.mem_put {m : Memory α} {a : Nat} {v : α} {e : Nat × α} (h : e ∈ Memory.put m a v) :
    e = (a, v) ∨ e ∈ m := by
  induction m with
  | nil => simpa [Memory.put] using h
  | cons c m ih =>
    obtain ⟨b, w⟩ := c
    unfold Memory.put at h
    split_ifs at h with h1 h2
    · simpa using h
    · rcases List.mem_cons.mp h with h | h
      · exact Or.inl h
      · exact Or.inr (List.mem_cons_of_mem _ h)
    · rcases List.mem_cons.mp h with h | h
      · exact Or.inr (by simp [h])
      · rcases ih h with h | h
        · exact Or.inl h
        · exact Or.inr (List.mem_cons_of_mem _ h)

theorem Memory.rising_put {m : Memory α} (a : Nat) (v : α) (h : Memory.rising m = true) :
    Memory.rising (Memory.put m a v) = true := by
  induction m with
  | nil => rfl
  | cons c m ih =>
    obtain ⟨b, w⟩ := c
    have hbm := (Memory.rising_cons b w m).mp h
    unfold Memory.put
    split_ifs with h1 h2
    · refine (Memory.rising_cons ..).mpr ⟨?_, h⟩
      intro e he
      rcases List.mem_cons.mp he with rfl | he
      · exact h1
      · exact lt_trans h1 (hbm.1 e he)
    · subst h2
      exact (Memory.rising_cons ..).mpr ⟨hbm.1, hbm.2⟩
    · refine (Memory.rising_cons ..).mpr ⟨?_, ih hbm.2⟩
      intro e he
      rcases Memory.mem_put he with rfl | he
      · simp only; omega
      · exact hbm.1 e he

theorem Memory.rising_drop {m : Memory α} (a : Nat) (h : Memory.rising m = true) :
    Memory.rising (Memory.drop m a) = true := by
  induction m with
  | nil => rfl
  | cons c m ih =>
    obtain ⟨b, w⟩ := c
    have hbm := (Memory.rising_cons b w m).mp h
    have hrest := ih hbm.2
    unfold Memory.drop at hrest ⊢
    rw [List.filter_cons]
    split_ifs
    · exact (Memory.rising_cons ..).mpr ⟨fun e he => hbm.1 e (List.mem_filter.mp he).1, hrest⟩
    · exact hrest

theorem Memory.wf_iff [DecidableEq α] (u : Option α) (size : Nat) (m : Memory α) :
    Memory.wf u size m = true ↔
      Memory.rising m = true ∧ ∀ e ∈ m, e.1 < size ∧ u ≠ some e.2 := by
  simp [Memory.wf]

/-- A listing inside the space of a value that an unlisted index does not read as keeps the form. -/
theorem Memory.wf_put [DecidableEq α] {u : Option α} {size : Nat} {m : Memory α} {a : Nat} {v : α}
    (h : Memory.wf u size m = true) (ha : a < size) (hv : u ≠ some v) :
    Memory.wf u size (Memory.put m a v) = true := by
  obtain ⟨hr, hm⟩ := (Memory.wf_iff ..).mp h
  refine (Memory.wf_iff ..).mpr ⟨Memory.rising_put a v hr, ?_⟩
  intro e he
  rcases Memory.mem_put he with rfl | he
  · exact ⟨ha, hv⟩
  · exact hm e he

theorem Memory.wf_drop [DecidableEq α] {u : Option α} {size : Nat} {m : Memory α} (a : Nat)
    (h : Memory.wf u size m = true) : Memory.wf u size (Memory.drop m a) = true := by
  obtain ⟨hr, hm⟩ := (Memory.wf_iff ..).mp h
  exact (Memory.wf_iff ..).mpr
    ⟨Memory.rising_drop a hr, fun e he => hm e (List.mem_filter.mp he).1⟩

/-- A write inside the space keeps the form. -/
theorem Memory.wf_set [DecidableEq α] {d : α} {size : Nat} {m : Memory α} {a : Nat} (v : α)
    (h : Memory.wf (some d) size m = true) (ha : a < size) :
    Memory.wf (some d) size (Memory.set d m a v) = true := by
  unfold Memory.set
  split_ifs with hv
  · exact Memory.wf_drop a h
  · exact Memory.wf_put h ha (fun e => hv (Option.some.inj e).symm)

/-- The memory with nothing listed has the form: every space of the reset state. -/
theorem Memory.wf_nil [DecidableEq α] (u : Option α) (size : Nat) :
    Memory.wf u size ([] : Memory α) = true := rfl

end Sys2Proof.Machine
end

