-- ==== Sys2Proof/Laws/Numerics.lean ====
section
/-! SUPPORT. What the operations of the number format can answer: patterns with a sign, the free quiet NaN,
the one rounding, the signs, the sine. -/

namespace Sys2Proof.Machine

/-! ### Patterns with a sign -/

theorem toNat_withSign {mag : Nat} (h : mag < 2 ^ 31) (neg : Bool) :
    (withSign neg mag).toNat = (if neg then 2 ^ 31 else 0) + mag := by
  cases neg <;> (simp [withSign, BitVec.toNat_ofNat]; omega)

theorem signBit_withSign {mag : Nat} (h : mag < 2 ^ 31) (neg : Bool) : signBit (withSign neg mag) = neg := by
  cases neg <;> simp [signBit, toNat_withSign h] <;> omega

theorem expField_withSign {mag : Nat} (h : mag < 2 ^ 31) (neg : Bool) :
    expField (withSign neg mag) = mag / 2 ^ 23 := by
  cases neg <;> (simp [expField, toNat_withSign h]; omega)

theorem fracField_withSign {mag : Nat} (h : mag < 2 ^ 31) (neg : Bool) :
    fracField (withSign neg mag) = mag % 2 ^ 23 := by
  cases neg <;> simp [fracField, toNat_withSign h] <;> omega

theorem expField_le (x : F) : expField x ≤ 255 := by
  have : expField x < 2 ^ 8 := Nat.mod_lt _ (by decide)
  omega

/-- The sign and the magnitude pattern make the value. -/
theorem withSign_self (x : F) : withSign (signBit x) (x.toNat % 2 ^ 31) = x := by
  apply BitVec.eq_of_toNat_eq
  have := x.isLt
  rw [toNat_withSign (Nat.mod_lt _ (by decide))]
  simp only [signBit, decide_eq_true_eq]
  split <;> omega

theorem isNaN_withSign {mag : Nat} (h : mag ≤ 0x7F800000) (neg : Bool) : isNaN (withSign neg mag) = false := by
  have h' : mag < 2 ^ 31 := by omega
  simp only [isNaN, expField_withSign h', fracField_withSign h']
  simp only [Bool.and_eq_false_iff, beq_eq_false_iff_ne, bne_eq_false_iff_eq]
  omega

theorem isFinite_withSign {mag : Nat} (h : mag < 0x7F800000) (neg : Bool) :
    isFinite (withSign neg mag) = true := by
  have h' : mag < 2 ^ 31 := by omega
  simp only [isFinite, expField_withSign h', bne_iff_ne]
  omega

/-- A value that is finite is no NaN. -/
theorem isNaN_of_isFinite {x : F} (h : isFinite x = true) : isNaN x = false := by
  simp only [isFinite, bne_iff_ne] at h
  simp [isNaN, h]

/-! ### The quiet NaN (R11) -/

theorem toNat_quietNaN (op : NumOp) (a b : F) : ∃ neg : Bool, ∃ p : Nat, p < 2 ^ 22 ∧
    quietNaN op a b = withSign neg (0x7FC00000 + p) := by
  have hp := (Config.freeNaN op a b).isLt
  refine ⟨decide ((Config.freeNaN op a b).toNat / 2 ^ 22 = 1), (Config.freeNaN op a b).toNat % 2 ^ 22,
    Nat.mod_lt _ (by decide), ?_⟩
  apply BitVec.eq_of_toNat_eq
  rw [toNat_withSign (by omega)]
  simp only [quietNaN, BitVec.toNat_ofNat, decide_eq_true_eq]
  split <;> omega

@[simp] theorem isNaN_quietNaN (op : NumOp) (a b : F) : isNaN (quietNaN op a b) = true := by
  obtain ⟨neg, p, hp, h⟩ := toNat_quietNaN op a b
  have h' : 0x7FC00000 + p < 2 ^ 31 := by omega
  simp only [h, isNaN, expField_withSign h', fracField_withSign h', Bool.and_eq_true, beq_iff_eq, bne_iff_ne]
  omega

/-- A NaN is not finite. -/
theorem isFinite_quietNaN (op : NumOp) (a b : F) : isFinite (quietNaN op a b) = false := by
  have h := isNaN_quietNaN op a b
  simp only [isNaN, Bool.and_eq_true, beq_iff_eq] at h
  simp [isFinite, h.1]

/-! ### The one rounding (R11) -/

theorem roundMag_le (n d : Nat) : roundMag n d ≤ 0x7F800000 := by
  simp only [roundMag]; omega

@[simp] theorem isNaN_roundUnits (neg : Bool) (n d : Nat) : isNaN (roundUnits neg n d) = false :=
  isNaN_withSign (roundMag_le n d) neg

@[simp] theorem isNaN_i2f (i : Int) : isNaN (i2f i) = false := isNaN_roundUnits ..

@[simp] theorem isNaN_u2f (u : Nat) : isNaN (u2f u) = false := isNaN_roundUnits ..

theorem signBit_roundUnits (neg : Bool) (n d : Nat) : signBit (roundUnits neg n d) = neg :=
  signBit_withSign (by have := roundMag_le n d; omega) neg

@[simp] theorem roundMag_zero (d : Nat) : roundMag 0 d = 0 := by
  simp only [roundMag, nearestEven, Nat.zero_div, Nat.zero_mod, Nat.log2_zero]
  split <;> omega

/-! ### Signs -/

@[simp] theorem signBit_negate (x : F) : signBit (negate x) = !signBit x :=
  signBit_withSign (Nat.mod_lt _ (by decide)) _

@[simp] theorem negate_negate (x : F) : negate (negate x) = x := by
  have h : (negate x).toNat % 2 ^ 31 = x.toNat % 2 ^ 31 := by
    have := Nat.mod_lt x.toNat (show 0 < 2 ^ 31 by decide)
    simp only [negate, toNat_withSign this]
    split <;> omega
  conv_lhs => rw [negate, h, signBit_negate, Bool.not_not]
  exact withSign_self x

/-! ### A NaN goes through (R11) -/

theorem fadd_nan {a b : F} (h : isNaN a = true ∨ isNaN b = true) : isNaN (fadd a b) = true := by
  rcases h with h | h <;> simp [fadd, h]

theorem fsub_nan {a b : F} (h : isNaN a = true ∨ isNaN b = true) : isNaN (fsub a b) = true := by
  rcases h with h | h <;> simp [fsub, h]

theorem fmul_nan {a b : F} (h : isNaN a = true ∨ isNaN b = true) : isNaN (fmul a b) = true := by
  rcases h with h | h <;> simp [fmul, h]

theorem fdiv_nan {a b : F} (h : isNaN a = true ∨ isNaN b = true) : isNaN (fdiv a b) = true := by
  rcases h with h | h <;> simp [fdiv, h]

/-! ### The sine (R18) -/

/-- Whatever the choice, the sine is the lawful form of some function. -/
theorem sine_lawful (c : SinChoice) : ∃ raw : F → F, sine c = lawfulSine raw := by
  cases c with
  | correctlyRounded => exact ⟨roundedSine, rfl⟩
  | other id => exact ⟨Config.freeSine id, rfl⟩

/-- All that a lawful sine can answer. -/
theorem lawfulSine_cases (raw : F → F) (x : F) :
    (isFinite x = false ∧ isNaN (lawfulSine raw x) = true) ∨
    (x = 0#32 ∧ lawfulSine raw x = 0#32) ∨
    (isFinite x = true ∧ ∃ (neg : Bool) (mag : Nat), mag ≤ 0x3F800000 ∧ lawfulSine raw x = withSign neg mag) := by
  by_cases h : isFinite x = true
  · by_cases h0 : x = 0#32
    · exact .inr (.inl ⟨h0, by simp [lawfulSine, h0, isFinite, expField]⟩)
    · refine .inr (.inr ⟨h, signBit (raw x), min ((raw x).toNat % 2 ^ 31) 0x3F800000, Nat.min_le_right _ _, ?_⟩)
      simp only [lawfulSine, h, h0, clampUnit, if_true, if_false]
  · have h' : isFinite x = false := by simpa using h
    exact .inl ⟨h', by simp [lawfulSine, h']⟩

end Sys2Proof.Machine
end

