-- ==== Sys2Proof/Laws/Num.lean ====
section
/-! SUPPORT. The operations of the numerics record that `CFG` chooses: what each is with the default record,
once for the record and once for the machine, and the classes of values the laws of R21 name. -/

namespace Sys2Proof.Machine

/-! ### The default record -/

@[simp] theorem numAdd_binary32 (a b : F) : numAdd .binary32 a b = fadd a b := rfl
@[simp] theorem numSub_binary32 (a b : F) : numSub .binary32 a b = fsub a b := rfl
@[simp] theorem numMul_binary32 (a b : F) : numMul .binary32 a b = fmul a b := rfl
@[simp] theorem numDiv_binary32 (a b : F) : numDiv .binary32 a b = fdiv a b := rfl
@[simp] theorem numI2f_binary32 (i : Int) : numI2f .binary32 i = i2f i := rfl
@[simp] theorem numU2f_binary32 (u : Nat) : numU2f .binary32 u = u2f u := rfl
@[simp] theorem numF2i_binary32 (x : F) : numF2i .binary32 x = f2i x := rfl
@[simp] theorem numOor_binary32 (x : F) : numOor .binary32 x = oor x := rfl
@[simp] theorem numGe_binary32 (a b : F) : numGe .binary32 a b = fge a b := rfl
@[simp] theorem numSin_binary32 (c : SinChoice) (x : F) : numSin .binary32 c x = sine c x := rfl

/-! ### The machine's operations, when its record is the default -/

section
variable {s : State} (h : s.cfg.num = .binary32)
include h

theorem State.fadd_default (a b : F) : s.fadd a b = Machine.fadd a b := by rw [State.fadd, h]; rfl
theorem State.fsub_default (a b : F) : s.fsub a b = Machine.fsub a b := by rw [State.fsub, h]; rfl
theorem State.fmul_default (a b : F) : s.fmul a b = Machine.fmul a b := by rw [State.fmul, h]; rfl
theorem State.fdiv_default (a b : F) : s.fdiv a b = Machine.fdiv a b := by rw [State.fdiv, h]; rfl
theorem State.i2f_default (i : Int) : s.i2f i = Machine.i2f i := by rw [State.i2f, h]; rfl
theorem State.u2f_default (u : Nat) : s.u2f u = Machine.u2f u := by rw [State.u2f, h]; rfl
theorem State.f2i_default (x : F) : s.f2i x = Machine.f2i x := by rw [State.f2i, h]; rfl
theorem State.oor_default (x : F) : s.oor x = Machine.oor x := by rw [State.oor, h]; rfl
theorem State.fge_default (a b : F) : s.fge a b = Machine.fge a b := by rw [State.fge, h]; rfl
theorem State.sin_default (x : F) : s.sin x = sine s.cfg.sin x := by rw [State.sin, h]; rfl

end

/-! ### Classes of values -/

@[simp] theorem isZero_asZero (x : F) : isZero (asZero x) = true := by
  unfold asZero
  split
  · assumption
  · rfl

@[simp] theorem isNaN_asNaN (x : F) : isNaN (asNaN x) = true := by
  unfold asNaN
  split
  · assumption
  · exact isNaN_quietNaN ..

theorem isZero_withSign (neg : Bool) : isZero (withSign neg 0) = true := by cases neg <;> decide

/-! ### The order of patterns is the order of magnitudes -/

theorem magUnits_eq (x : F) : magUnits x =
    if x.toNat / 2 ^ 23 % 2 ^ 8 = 0 then x.toNat % 2 ^ 23
    else (2 ^ 23 + x.toNat % 2 ^ 23) * 2 ^ (x.toNat / 2 ^ 23 % 2 ^ 8 - 1) := rfl

theorem magUnits_lt {x y : F} (h : x.toNat % 2 ^ 31 < y.toNat % 2 ^ 31) : magUnits x < magUnits y := by
  have split31 : ∀ z : Nat, z % 2 ^ 31 = z / 2 ^ 23 % 2 ^ 8 * 2 ^ 23 + z % 2 ^ 23 := by omega
  rw [split31, split31] at h
  have hf : x.toNat % 2 ^ 23 < 2 ^ 23 := Nat.mod_lt _ (by decide)
  have hg : y.toNat % 2 ^ 23 < 2 ^ 23 := Nat.mod_lt _ (by decide)
  rw [magUnits_eq, magUnits_eq]
  generalize x.toNat / 2 ^ 23 % 2 ^ 8 = e at *
  generalize y.toNat / 2 ^ 23 % 2 ^ 8 = d at *
  generalize x.toNat % 2 ^ 23 = f at *
  generalize y.toNat % 2 ^ 23 = g at *
  rcases Nat.lt_trichotomy e d with hlt | rfl | hgt
  · rw [if_neg (show ¬ d = 0 by omega)]
    have hd : 2 ^ 23 * 2 ^ (d - 1) ≤ (2 ^ 23 + g) * 2 ^ (d - 1) := Nat.mul_le_mul_right _ (by omega)
    split
    · have : 1 ≤ 2 ^ (d - 1) := Nat.one_le_two_pow
      omega
    · have step : 2 * 2 ^ (e - 1) ≤ 2 ^ (d - 1) := by
        rw [← Nat.pow_succ']
        exact Nat.pow_le_pow_right (by decide) (by omega)
      have he : (2 ^ 23 + f) * 2 ^ (e - 1) < (2 ^ 23 + 2 ^ 23) * 2 ^ (e - 1) :=
        Nat.mul_lt_mul_of_pos_right (by omega) (Nat.two_pow_pos _)
      omega
  · split
    · omega
    · exact Nat.mul_lt_mul_of_pos_right (by omega) (Nat.two_pow_pos _)
  · omega

/-- Every image of `intoTurn` is a value of binary32 in [0, 2π) (log entry 11). -/
theorem fge_intoTurn (x : BitVec 32) :
    fge (Config.intoTurn x) 0#32 = true ∧ fge (Config.intoTurn x) twoPi = false := by
  unfold Config.intoTurn
  split
  · rename_i hx
    rw [hx]
    decide
  · have lt : (x % 0x40C90FDB#32).toNat < 0x40C90FDB := by
      rw [BitVec.toNat_umod]
      exact Nat.mod_lt _ (by decide)
    generalize x % 0x40C90FDB#32 = y at lt
    have sign : signBit y = false := by simp [signBit]; omega
    have nan : isNaN y = false := by
      have : expField y ≠ 255 := by simp only [expField]; omega
      simp [isNaN, this]
    have mag : magUnits y < magUnits twoPi := by
      apply magUnits_lt
      have : twoPi.toNat % 2 ^ 31 = 0x40C90FDB := by decide
      omega
    have u : units y = magUnits y := by simp [units, sign]
    have v : units twoPi = magUnits twoPi := by simp [units, show signBit twoPi = false by decide]
    have z : units 0#32 = 0 := by decide
    refine ⟨?_, ?_⟩
    · simp [fge, fle, nan, u, z, show isNaN 0#32 = false by decide]
    · simp [fge, fle, nan, u, v, show isNaN twoPi = false by decide, mag]

/-- The open phases of the default record meet the constraint of R6. -/
theorem Cfg_default_phases : Cfg.default.phaseStart Cfg.default.phiC1Reset = true ∧
    Cfg.default.phaseStart Cfg.default.phiC2Reset = true := by
  have a := fge_intoTurn Config.openPhiC1
  have b := fge_intoTurn Config.openPhiC2
  constructor
  · show (fge (Config.intoTurn Config.openPhiC1) 0#32 && !fge (Config.intoTurn Config.openPhiC1) twoPi) = true
    rw [a.1, a.2]; rfl
  · show (fge (Config.intoTurn Config.openPhiC2) 0#32 && !fge (Config.intoTurn Config.openPhiC2) twoPi) = true
    rw [b.1, b.2]; rfl

end Sys2Proof.Machine
end

