-- ==== Sys2Proof/Laws/State.lean ====
section
/-! SUPPORT. What each named update of State leaves in each field: one lemma per field per update, so
that no proof unfolds a record update. -/

namespace Sys2Proof.Machine

/-! ### `State.setAcc` -/

@[simp] theorem State.setAcc_cfg (s : State) (l r : F) : (s.setAcc l r).cfg = s.cfg := rfl
@[simp] theorem State.setAcc_inL (s : State) (l r : F) : (s.setAcc l r).inL = s.inL := rfl
@[simp] theorem State.setAcc_inR (s : State) (l r : F) : (s.setAcc l r).inR = s.inR := rfl
@[simp] theorem State.setAcc_dry (s : State) (l r : F) : (s.setAcc l r).dry = s.dry := rfl
@[simp] theorem State.setAcc_accL (s : State) (l r : F) : (s.setAcc l r).accL = l := rfl
@[simp] theorem State.setAcc_accR (s : State) (l r : F) : (s.setAcc l r).accR = r := rfl
@[simp] theorem State.setAcc_sidx (s : State) (l r : F) : (s.setAcc l r).sidx = s.sidx := rfl
@[simp] theorem State.setAcc_fidx (s : State) (l r : F) : (s.setAcc l r).fidx = s.fidx := rfl
@[simp] theorem State.setAcc_nf (s : State) (l r : F) : (s.setAcc l r).nf = s.nf := rfl
@[simp] theorem State.setAcc_busy (s : State) (l r : F) : (s.setAcc l r).busy = s.busy := rfl
@[simp] theorem State.setAcc_done (s : State) (l r : F) : (s.setAcc l r).done = s.done := rfl
@[simp] theorem State.setAcc_normed (s : State) (l r : F) : (s.setAcc l r).normed = s.normed := rfl
@[simp] theorem State.setAcc_doneIe (s : State) (l r : F) : (s.setAcc l r).doneIe = s.doneIe := rfl
@[simp] theorem State.setAcc_nframes (s : State) (l r : F) : (s.setAcc l r).nframes = s.nframes := rfl
@[simp] theorem State.setAcc_toggle (s : State) (l r : F) : (s.setAcc l r).toggle = s.toggle := rfl
@[simp] theorem State.setAcc_diag (s : State) (l r : F) : (s.setAcc l r).diag = s.diag := rfl
@[simp] theorem State.setAcc_peak (s : State) (l r : F) : (s.setAcc l r).peak = s.peak := rfl
@[simp] theorem State.setAcc_scale (s : State) (l r : F) : (s.setAcc l r).scale = s.scale := rfl
@[simp] theorem State.setAcc_params (s : State) (l r : F) : (s.setAcc l r).params = s.params := rfl
@[simp] theorem State.setAcc_cur (s : State) (l r : F) : (s.setAcc l r).cur = s.cur := rfl
@[simp] theorem State.setAcc_ph (s : State) (l r : F) : (s.setAcc l r).ph = s.ph := rfl
@[simp] theorem State.setAcc_dl (s : State) (l r : F) : (s.setAcc l r).dl = s.dl := rfl
@[simp] theorem State.setAcc_blk (s : State) (l r : F) : (s.setAcc l r).blk = s.blk := rfl
@[simp] theorem State.setAcc_peakacc (s : State) (l r : F) : (s.setAcc l r).peakacc = s.peakacc := rfl
@[simp] theorem State.setAcc_wbuf (s : State) (l r : F) : (s.setAcc l r).wbuf = s.wbuf := rfl
@[simp] theorem State.setAcc_events (s : State) (l r : F) : (s.setAcc l r).events = s.events := rfl
@[simp] theorem State.setAcc_answer (s : State) (l r : F) : (s.setAcc l r).answer = s.answer := rfl

/-! ### `State.addBoth` -/

@[simp] theorem State.addBoth_cfg (s : State) (t : F) : (s.addBoth t).cfg = s.cfg := rfl
@[simp] theorem State.addBoth_inL (s : State) (t : F) : (s.addBoth t).inL = s.inL := rfl
@[simp] theorem State.addBoth_inR (s : State) (t : F) : (s.addBoth t).inR = s.inR := rfl
@[simp] theorem State.addBoth_dry (s : State) (t : F) : (s.addBoth t).dry = s.dry := rfl
@[simp] theorem State.addBoth_accL (s : State) (t : F) : (s.addBoth t).accL = s.fadd s.accL t := rfl
@[simp] theorem State.addBoth_accR (s : State) (t : F) : (s.addBoth t).accR = s.fadd s.accR t := rfl
@[simp] theorem State.addBoth_sidx (s : State) (t : F) : (s.addBoth t).sidx = s.sidx := rfl
@[simp] theorem State.addBoth_fidx (s : State) (t : F) : (s.addBoth t).fidx = s.fidx := rfl
@[simp] theorem State.addBoth_nf (s : State) (t : F) : (s.addBoth t).nf = s.nf := rfl
@[simp] theorem State.addBoth_busy (s : State) (t : F) : (s.addBoth t).busy = s.busy := rfl
@[simp] theorem State.addBoth_done (s : State) (t : F) : (s.addBoth t).done = s.done := rfl
@[simp] theorem State.addBoth_normed (s : State) (t : F) : (s.addBoth t).normed = s.normed := rfl
@[simp] theorem State.addBoth_doneIe (s : State) (t : F) : (s.addBoth t).doneIe = s.doneIe := rfl
@[simp] theorem State.addBoth_nframes (s : State) (t : F) : (s.addBoth t).nframes = s.nframes := rfl
@[simp] theorem State.addBoth_toggle (s : State) (t : F) : (s.addBoth t).toggle = s.toggle := rfl
@[simp] theorem State.addBoth_diag (s : State) (t : F) : (s.addBoth t).diag = s.diag := rfl
@[simp] theorem State.addBoth_peak (s : State) (t : F) : (s.addBoth t).peak = s.peak := rfl
@[simp] theorem State.addBoth_scale (s : State) (t : F) : (s.addBoth t).scale = s.scale := rfl
@[simp] theorem State.addBoth_params (s : State) (t : F) : (s.addBoth t).params = s.params := rfl
@[simp] theorem State.addBoth_cur (s : State) (t : F) : (s.addBoth t).cur = s.cur := rfl
@[simp] theorem State.addBoth_ph (s : State) (t : F) : (s.addBoth t).ph = s.ph := rfl
@[simp] theorem State.addBoth_dl (s : State) (t : F) : (s.addBoth t).dl = s.dl := rfl
@[simp] theorem State.addBoth_blk (s : State) (t : F) : (s.addBoth t).blk = s.blk := rfl
@[simp] theorem State.addBoth_peakacc (s : State) (t : F) : (s.addBoth t).peakacc = s.peakacc := rfl
@[simp] theorem State.addBoth_wbuf (s : State) (t : F) : (s.addBoth t).wbuf = s.wbuf := rfl
@[simp] theorem State.addBoth_events (s : State) (t : F) : (s.addBoth t).events = s.events := rfl
@[simp] theorem State.addBoth_answer (s : State) (t : F) : (s.addBoth t).answer = s.answer := rfl

/-! ### `State.scaleBoth` -/

@[simp] theorem State.scaleBoth_cfg (s : State) (m : F) : (s.scaleBoth m).cfg = s.cfg := rfl
@[simp] theorem State.scaleBoth_inL (s : State) (m : F) : (s.scaleBoth m).inL = s.inL := rfl
@[simp] theorem State.scaleBoth_inR (s : State) (m : F) : (s.scaleBoth m).inR = s.inR := rfl
@[simp] theorem State.scaleBoth_dry (s : State) (m : F) : (s.scaleBoth m).dry = s.dry := rfl
@[simp] theorem State.scaleBoth_accL (s : State) (m : F) : (s.scaleBoth m).accL = s.fmul s.accL m := rfl
@[simp] theorem State.scaleBoth_accR (s : State) (m : F) : (s.scaleBoth m).accR = s.fmul s.accR m := rfl
@[simp] theorem State.scaleBoth_sidx (s : State) (m : F) : (s.scaleBoth m).sidx = s.sidx := rfl
@[simp] theorem State.scaleBoth_fidx (s : State) (m : F) : (s.scaleBoth m).fidx = s.fidx := rfl
@[simp] theorem State.scaleBoth_nf (s : State) (m : F) : (s.scaleBoth m).nf = s.nf := rfl
@[simp] theorem State.scaleBoth_busy (s : State) (m : F) : (s.scaleBoth m).busy = s.busy := rfl
@[simp] theorem State.scaleBoth_done (s : State) (m : F) : (s.scaleBoth m).done = s.done := rfl
@[simp] theorem State.scaleBoth_normed (s : State) (m : F) : (s.scaleBoth m).normed = s.normed := rfl
@[simp] theorem State.scaleBoth_doneIe (s : State) (m : F) : (s.scaleBoth m).doneIe = s.doneIe := rfl
@[simp] theorem State.scaleBoth_nframes (s : State) (m : F) : (s.scaleBoth m).nframes = s.nframes := rfl
@[simp] theorem State.scaleBoth_toggle (s : State) (m : F) : (s.scaleBoth m).toggle = s.toggle := rfl
@[simp] theorem State.scaleBoth_diag (s : State) (m : F) : (s.scaleBoth m).diag = s.diag := rfl
@[simp] theorem State.scaleBoth_peak (s : State) (m : F) : (s.scaleBoth m).peak = s.peak := rfl
@[simp] theorem State.scaleBoth_scale (s : State) (m : F) : (s.scaleBoth m).scale = s.scale := rfl
@[simp] theorem State.scaleBoth_params (s : State) (m : F) : (s.scaleBoth m).params = s.params := rfl
@[simp] theorem State.scaleBoth_cur (s : State) (m : F) : (s.scaleBoth m).cur = s.cur := rfl
@[simp] theorem State.scaleBoth_ph (s : State) (m : F) : (s.scaleBoth m).ph = s.ph := rfl
@[simp] theorem State.scaleBoth_dl (s : State) (m : F) : (s.scaleBoth m).dl = s.dl := rfl
@[simp] theorem State.scaleBoth_blk (s : State) (m : F) : (s.scaleBoth m).blk = s.blk := rfl
@[simp] theorem State.scaleBoth_peakacc (s : State) (m : F) : (s.scaleBoth m).peakacc = s.peakacc := rfl
@[simp] theorem State.scaleBoth_wbuf (s : State) (m : F) : (s.scaleBoth m).wbuf = s.wbuf := rfl
@[simp] theorem State.scaleBoth_events (s : State) (m : F) : (s.scaleBoth m).events = s.events := rfl
@[simp] theorem State.scaleBoth_answer (s : State) (m : F) : (s.scaleBoth m).answer = s.answer := rfl

/-! ### `State.setSidx` -/

@[simp] theorem State.setSidx_cfg (s : State) (c : UopCode) : (s.setSidx c).cfg = s.cfg := rfl
@[simp] theorem State.setSidx_inL (s : State) (c : UopCode) : (s.setSidx c).inL = s.inL := rfl
@[simp] theorem State.setSidx_inR (s : State) (c : UopCode) : (s.setSidx c).inR = s.inR := rfl
@[simp] theorem State.setSidx_dry (s : State) (c : UopCode) : (s.setSidx c).dry = s.dry := rfl
@[simp] theorem State.setSidx_accL (s : State) (c : UopCode) : (s.setSidx c).accL = s.accL := rfl
@[simp] theorem State.setSidx_accR (s : State) (c : UopCode) : (s.setSidx c).accR = s.accR := rfl
@[simp] theorem State.setSidx_sidx (s : State) (c : UopCode) : (s.setSidx c).sidx = c := rfl
@[simp] theorem State.setSidx_fidx (s : State) (c : UopCode) : (s.setSidx c).fidx = s.fidx := rfl
@[simp] theorem State.setSidx_nf (s : State) (c : UopCode) : (s.setSidx c).nf = s.nf := rfl
@[simp] theorem State.setSidx_busy (s : State) (c : UopCode) : (s.setSidx c).busy = s.busy := rfl
@[simp] theorem State.setSidx_done (s : State) (c : UopCode) : (s.setSidx c).done = s.done := rfl
@[simp] theorem State.setSidx_normed (s : State) (c : UopCode) : (s.setSidx c).normed = s.normed := rfl
@[simp] theorem State.setSidx_doneIe (s : State) (c : UopCode) : (s.setSidx c).doneIe = s.doneIe := rfl
@[simp] theorem State.setSidx_nframes (s : State) (c : UopCode) : (s.setSidx c).nframes = s.nframes := rfl
@[simp] theorem State.setSidx_toggle (s : State) (c : UopCode) : (s.setSidx c).toggle = s.toggle := rfl
@[simp] theorem State.setSidx_diag (s : State) (c : UopCode) : (s.setSidx c).diag = s.diag := rfl
@[simp] theorem State.setSidx_peak (s : State) (c : UopCode) : (s.setSidx c).peak = s.peak := rfl
@[simp] theorem State.setSidx_scale (s : State) (c : UopCode) : (s.setSidx c).scale = s.scale := rfl
@[simp] theorem State.setSidx_params (s : State) (c : UopCode) : (s.setSidx c).params = s.params := rfl
@[simp] theorem State.setSidx_cur (s : State) (c : UopCode) : (s.setSidx c).cur = s.cur := rfl
@[simp] theorem State.setSidx_ph (s : State) (c : UopCode) : (s.setSidx c).ph = s.ph := rfl
@[simp] theorem State.setSidx_dl (s : State) (c : UopCode) : (s.setSidx c).dl = s.dl := rfl
@[simp] theorem State.setSidx_blk (s : State) (c : UopCode) : (s.setSidx c).blk = s.blk := rfl
@[simp] theorem State.setSidx_peakacc (s : State) (c : UopCode) : (s.setSidx c).peakacc = s.peakacc := rfl
@[simp] theorem State.setSidx_wbuf (s : State) (c : UopCode) : (s.setSidx c).wbuf = s.wbuf := rfl
@[simp] theorem State.setSidx_events (s : State) (c : UopCode) : (s.setSidx c).events = s.events := rfl
@[simp] theorem State.setSidx_answer (s : State) (c : UopCode) : (s.setSidx c).answer = s.answer := rfl

/-! ### `State.setFrame` -/

@[simp] theorem State.setFrame_cfg (s : State) (k : Nat) (v : Data) : (s.setFrame k v).cfg = s.cfg := rfl
@[simp] theorem State.setFrame_inL (s : State) (k : Nat) (v : Data) : (s.setFrame k v).inL = s.inL := rfl
@[simp] theorem State.setFrame_inR (s : State) (k : Nat) (v : Data) : (s.setFrame k v).inR = s.inR := rfl
@[simp] theorem State.setFrame_dry (s : State) (k : Nat) (v : Data) : (s.setFrame k v).dry = s.dry := rfl
@[simp] theorem State.setFrame_accL (s : State) (k : Nat) (v : Data) : (s.setFrame k v).accL = s.accL := rfl
@[simp] theorem State.setFrame_accR (s : State) (k : Nat) (v : Data) : (s.setFrame k v).accR = s.accR := rfl
@[simp] theorem State.setFrame_sidx (s : State) (k : Nat) (v : Data) : (s.setFrame k v).sidx = s.sidx := rfl
@[simp] theorem State.setFrame_fidx (s : State) (k : Nat) (v : Data) : (s.setFrame k v).fidx = s.fidx := rfl
@[simp] theorem State.setFrame_nf (s : State) (k : Nat) (v : Data) : (s.setFrame k v).nf = s.nf := rfl
@[simp] theorem State.setFrame_busy (s : State) (k : Nat) (v : Data) : (s.setFrame k v).busy = s.busy := rfl
@[simp] theorem State.setFrame_done (s : State) (k : Nat) (v : Data) : (s.setFrame k v).done = s.done := rfl
@[simp] theorem State.setFrame_normed (s : State) (k : Nat) (v : Data) :
    (s.setFrame k v).normed = s.normed := rfl
@[simp] theorem State.setFrame_doneIe (s : State) (k : Nat) (v : Data) :
    (s.setFrame k v).doneIe = s.doneIe := rfl
@[simp] theorem State.setFrame_nframes (s : State) (k : Nat) (v : Data) :
    (s.setFrame k v).nframes = s.nframes := rfl
@[simp] theorem State.setFrame_toggle (s : State) (k : Nat) (v : Data) :
    (s.setFrame k v).toggle = s.toggle := rfl
@[simp] theorem State.setFrame_diag (s : State) (k : Nat) (v : Data) : (s.setFrame k v).diag = s.diag := rfl
@[simp] theorem State.setFrame_peak (s : State) (k : Nat) (v : Data) : (s.setFrame k v).peak = s.peak := rfl
@[simp] theorem State.setFrame_scale (s : State) (k : Nat) (v : Data) :
    (s.setFrame k v).scale = s.scale := rfl
@[simp] theorem State.setFrame_params (s : State) (k : Nat) (v : Data) :
    (s.setFrame k v).params = s.params := rfl
@[simp] theorem State.setFrame_cur (s : State) (k : Nat) (v : Data) : (s.setFrame k v).cur = s.cur := rfl
@[simp] theorem State.setFrame_ph (s : State) (k : Nat) (v : Data) : (s.setFrame k v).ph = s.ph := rfl
@[simp] theorem State.setFrame_dl (s : State) (k : Nat) (v : Data) : (s.setFrame k v).dl = s.dl := rfl
@[simp] theorem State.setFrame_blk (s : State) (k : Nat) (v : Data) :
    (s.setFrame k v).blk = Memory.set 0#32 s.blk k v := rfl
@[simp] theorem State.setFrame_peakacc (s : State) (k : Nat) (v : Data) :
    (s.setFrame k v).peakacc = s.peakacc := rfl
@[simp] theorem State.setFrame_wbuf (s : State) (k : Nat) (v : Data) : (s.setFrame k v).wbuf = s.wbuf := rfl
@[simp] theorem State.setFrame_events (s : State) (k : Nat) (v : Data) :
    (s.setFrame k v).events = s.events := rfl
@[simp] theorem State.setFrame_answer (s : State) (k : Nat) (v : Data) :
    (s.setFrame k v).answer = s.answer := rfl

/-! ### `State.accept` -/

@[simp] theorem State.accept_cfg (s : State) (r : Data) : (s.accept r).cfg = s.cfg := rfl
@[simp] theorem State.accept_inL (s : State) (r : Data) : (s.accept r).inL = s.inL := rfl
@[simp] theorem State.accept_inR (s : State) (r : Data) : (s.accept r).inR = s.inR := rfl
@[simp] theorem State.accept_dry (s : State) (r : Data) : (s.accept r).dry = s.dry := rfl
@[simp] theorem State.accept_accL (s : State) (r : Data) : (s.accept r).accL = s.accL := rfl
@[simp] theorem State.accept_accR (s : State) (r : Data) : (s.accept r).accR = s.accR := rfl
@[simp] theorem State.accept_sidx (s : State) (r : Data) : (s.accept r).sidx = s.sidx := rfl
@[simp] theorem State.accept_fidx (s : State) (r : Data) : (s.accept r).fidx = s.fidx := rfl
@[simp] theorem State.accept_nf (s : State) (r : Data) : (s.accept r).nf = s.nf := rfl
@[simp] theorem State.accept_busy (s : State) (r : Data) : (s.accept r).busy = s.busy := rfl
@[simp] theorem State.accept_done (s : State) (r : Data) : (s.accept r).done = s.done := rfl
@[simp] theorem State.accept_normed (s : State) (r : Data) : (s.accept r).normed = s.normed := rfl
@[simp] theorem State.accept_doneIe (s : State) (r : Data) : (s.accept r).doneIe = s.doneIe := rfl
@[simp] theorem State.accept_nframes (s : State) (r : Data) : (s.accept r).nframes = s.nframes := rfl
@[simp] theorem State.accept_toggle (s : State) (r : Data) : (s.accept r).toggle = s.toggle := rfl
@[simp] theorem State.accept_diag (s : State) (r : Data) : (s.accept r).diag = s.diag := rfl
@[simp] theorem State.accept_peak (s : State) (r : Data) : (s.accept r).peak = s.peak := rfl
@[simp] theorem State.accept_scale (s : State) (r : Data) : (s.accept r).scale = s.scale := rfl
@[simp] theorem State.accept_params (s : State) (r : Data) : (s.accept r).params = s.params := rfl
@[simp] theorem State.accept_cur (s : State) (r : Data) : (s.accept r).cur = s.cur := rfl
@[simp] theorem State.accept_ph (s : State) (r : Data) : (s.accept r).ph = s.ph := rfl
@[simp] theorem State.accept_dl (s : State) (r : Data) : (s.accept r).dl = s.dl := rfl
@[simp] theorem State.accept_blk (s : State) (r : Data) : (s.accept r).blk = s.blk := rfl
@[simp] theorem State.accept_peakacc (s : State) (r : Data) : (s.accept r).peakacc = s.peakacc := rfl
@[simp] theorem State.accept_wbuf (s : State) (r : Data) : (s.accept r).wbuf = s.wbuf := rfl
@[simp] theorem State.accept_events (s : State) (r : Data) : (s.accept r).events = s.events := rfl
@[simp] theorem State.accept_answer (s : State) (r : Data) : (s.accept r).answer = some ⟨false, r⟩ := rfl

/-! ### `State.refuse` -/

@[simp] theorem State.refuse_cfg (s : State) : s.refuse.cfg = s.cfg := rfl
@[simp] theorem State.refuse_inL (s : State) : s.refuse.inL = s.inL := rfl
@[simp] theorem State.refuse_inR (s : State) : s.refuse.inR = s.inR := rfl
@[simp] theorem State.refuse_dry (s : State) : s.refuse.dry = s.dry := rfl
@[simp] theorem State.refuse_accL (s : State) : s.refuse.accL = s.accL := rfl
@[simp] theorem State.refuse_accR (s : State) : s.refuse.accR = s.accR := rfl
@[simp] theorem State.refuse_sidx (s : State) : s.refuse.sidx = s.sidx := rfl
@[simp] theorem State.refuse_fidx (s : State) : s.refuse.fidx = s.fidx := rfl
@[simp] theorem State.refuse_nf (s : State) : s.refuse.nf = s.nf := rfl
@[simp] theorem State.refuse_busy (s : State) : s.refuse.busy = s.busy := rfl
@[simp] theorem State.refuse_done (s : State) : s.refuse.done = s.done := rfl
@[simp] theorem State.refuse_normed (s : State) : s.refuse.normed = s.normed := rfl
@[simp] theorem State.refuse_doneIe (s : State) : s.refuse.doneIe = s.doneIe := rfl
@[simp] theorem State.refuse_nframes (s : State) : s.refuse.nframes = s.nframes := rfl
@[simp] theorem State.refuse_toggle (s : State) : s.refuse.toggle = s.toggle := rfl
@[simp] theorem State.refuse_diag (s : State) : s.refuse.diag = s.diag := rfl
@[simp] theorem State.refuse_peak (s : State) : s.refuse.peak = s.peak := rfl
@[simp] theorem State.refuse_scale (s : State) : s.refuse.scale = s.scale := rfl
@[simp] theorem State.refuse_params (s : State) : s.refuse.params = s.params := rfl
@[simp] theorem State.refuse_cur (s : State) : s.refuse.cur = s.cur := rfl
@[simp] theorem State.refuse_ph (s : State) : s.refuse.ph = s.ph := rfl
@[simp] theorem State.refuse_dl (s : State) : s.refuse.dl = s.dl := rfl
@[simp] theorem State.refuse_blk (s : State) : s.refuse.blk = s.blk := rfl
@[simp] theorem State.refuse_peakacc (s : State) : s.refuse.peakacc = s.peakacc := rfl
@[simp] theorem State.refuse_wbuf (s : State) : s.refuse.wbuf = s.wbuf := rfl
@[simp] theorem State.refuse_events (s : State) : s.refuse.events = s.events := rfl
@[simp] theorem State.refuse_answer (s : State) : s.refuse.answer = some ⟨true, 0#32⟩ := rfl

/-! ### `State.withEvents` -/

@[simp] theorem State.withEvents_cfg (s : State) (es : List Event) : (s.withEvents es).cfg = s.cfg := rfl
@[simp] theorem State.withEvents_inL (s : State) (es : List Event) : (s.withEvents es).inL = s.inL := rfl
@[simp] theorem State.withEvents_inR (s : State) (es : List Event) : (s.withEvents es).inR = s.inR := rfl
@[simp] theorem State.withEvents_dry (s : State) (es : List Event) : (s.withEvents es).dry = s.dry := rfl
@[simp] theorem State.withEvents_accL (s : State) (es : List Event) : (s.withEvents es).accL = s.accL := rfl
@[simp] theorem State.withEvents_accR (s : State) (es : List Event) : (s.withEvents es).accR = s.accR := rfl
@[simp] theorem State.withEvents_sidx (s : State) (es : List Event) : (s.withEvents es).sidx = s.sidx := rfl
@[simp] theorem State.withEvents_fidx (s : State) (es : List Event) : (s.withEvents es).fidx = s.fidx := rfl
@[simp] theorem State.withEvents_nf (s : State) (es : List Event) : (s.withEvents es).nf = s.nf := rfl
@[simp] theorem State.withEvents_busy (s : State) (es : List Event) : (s.withEvents es).busy = s.busy := rfl
@[simp] theorem State.withEvents_done (s : State) (es : List Event) : (s.withEvents es).done = s.done := rfl
@[simp] theorem State.withEvents_normed (s : State) (es : List Event) :
    (s.withEvents es).normed = s.normed := rfl
@[simp] theorem State.withEvents_doneIe (s : State) (es : List Event) :
    (s.withEvents es).doneIe = s.doneIe := rfl
@[simp] theorem State.withEvents_nframes (s : State) (es : List Event) :
    (s.withEvents es).nframes = s.nframes := rfl
@[simp] theorem State.withEvents_toggle (s : State) (es : List Event) :
    (s.withEvents es).toggle = s.toggle := rfl
@[simp] theorem State.withEvents_diag (s : State) (es : List Event) : (s.withEvents es).diag = s.diag := rfl
@[simp] theorem State.withEvents_peak (s : State) (es : List Event) : (s.withEvents es).peak = s.peak := rfl
@[simp] theorem State.withEvents_scale (s : State) (es : List Event) :
    (s.withEvents es).scale = s.scale := rfl
@[simp] theorem State.withEvents_params (s : State) (es : List Event) :
    (s.withEvents es).params = s.params := rfl
@[simp] theorem State.withEvents_cur (s : State) (es : List Event) : (s.withEvents es).cur = s.cur := rfl
@[simp] theorem State.withEvents_ph (s : State) (es : List Event) : (s.withEvents es).ph = s.ph := rfl
@[simp] theorem State.withEvents_dl (s : State) (es : List Event) : (s.withEvents es).dl = s.dl := rfl
@[simp] theorem State.withEvents_blk (s : State) (es : List Event) : (s.withEvents es).blk = s.blk := rfl
@[simp] theorem State.withEvents_peakacc (s : State) (es : List Event) :
    (s.withEvents es).peakacc = s.peakacc := rfl
@[simp] theorem State.withEvents_wbuf (s : State) (es : List Event) : (s.withEvents es).wbuf = s.wbuf := rfl
@[simp] theorem State.withEvents_events (s : State) (es : List Event) : (s.withEvents es).events = es := rfl
@[simp] theorem State.withEvents_answer (s : State) (es : List Event) :
    (s.withEvents es).answer = s.answer := rfl

/-! ### `State.startBlock` -/

@[simp] theorem State.startBlock_cfg (s : State) : s.startBlock.cfg = s.cfg := rfl
@[simp] theorem State.startBlock_inL (s : State) : s.startBlock.inL = s.inL := rfl
@[simp] theorem State.startBlock_inR (s : State) : s.startBlock.inR = s.inR := rfl
@[simp] theorem State.startBlock_dry (s : State) : s.startBlock.dry = s.dry := rfl
@[simp] theorem State.startBlock_accL (s : State) : s.startBlock.accL = s.accL := rfl
@[simp] theorem State.startBlock_accR (s : State) : s.startBlock.accR = s.accR := rfl
@[simp] theorem State.startBlock_sidx (s : State) :
    s.startBlock.sidx = if s.nframes = 0#11 then 9#4 else 0#4 := rfl
@[simp] theorem State.startBlock_fidx (s : State) : s.startBlock.fidx = 0#11 := rfl
@[simp] theorem State.startBlock_nf (s : State) : s.startBlock.nf = s.nframes := rfl
@[simp] theorem State.startBlock_busy (s : State) : s.startBlock.busy = true := rfl
@[simp] theorem State.startBlock_done (s : State) : s.startBlock.done = false := rfl
@[simp] theorem State.startBlock_normed (s : State) : s.startBlock.normed = s.normed := rfl
@[simp] theorem State.startBlock_doneIe (s : State) : s.startBlock.doneIe = s.doneIe := rfl
@[simp] theorem State.startBlock_nframes (s : State) : s.startBlock.nframes = s.nframes := rfl
@[simp] theorem State.startBlock_toggle (s : State) : s.startBlock.toggle = s.toggle := rfl
@[simp] theorem State.startBlock_diag (s : State) : s.startBlock.diag = s.diag := rfl
@[simp] theorem State.startBlock_peak (s : State) : s.startBlock.peak = s.peak := rfl
@[simp] theorem State.startBlock_scale (s : State) : s.startBlock.scale = s.scale := rfl
@[simp] theorem State.startBlock_params (s : State) : s.startBlock.params = s.params := rfl
@[simp] theorem State.startBlock_cur (s : State) : s.startBlock.cur = s.cur := rfl
@[simp] theorem State.startBlock_ph (s : State) : s.startBlock.ph = s.ph := rfl
@[simp] theorem State.startBlock_dl (s : State) : s.startBlock.dl = s.dl := rfl
@[simp] theorem State.startBlock_blk (s : State) : s.startBlock.blk = s.blk := rfl
@[simp] theorem State.startBlock_peakacc (s : State) : s.startBlock.peakacc = 0#32 := rfl
@[simp] theorem State.startBlock_wbuf (s : State) : s.startBlock.wbuf = s.wbuf := rfl
@[simp] theorem State.startBlock_events (s : State) : s.startBlock.events = s.events := rfl
@[simp] theorem State.startBlock_answer (s : State) : s.startBlock.answer = s.answer := rfl

/-! ### `State.lineWriteAdv` -/

@[simp] theorem State.lineWriteAdv_cfg (s : State) (d : Fin 10) (v : F) :
    (s.lineWriteAdv d v).cfg = s.cfg := rfl
@[simp] theorem State.lineWriteAdv_inL (s : State) (d : Fin 10) (v : F) :
    (s.lineWriteAdv d v).inL = s.inL := rfl
@[simp] theorem State.lineWriteAdv_inR (s : State) (d : Fin 10) (v : F) :
    (s.lineWriteAdv d v).inR = s.inR := rfl
@[simp] theorem State.lineWriteAdv_dry (s : State) (d : Fin 10) (v : F) :
    (s.lineWriteAdv d v).dry = s.dry := rfl
@[simp] theorem State.lineWriteAdv_accL (s : State) (d : Fin 10) (v : F) :
    (s.lineWriteAdv d v).accL = s.accL := rfl
@[simp] theorem State.lineWriteAdv_accR (s : State) (d : Fin 10) (v : F) :
    (s.lineWriteAdv d v).accR = s.accR := rfl
@[simp] theorem State.lineWriteAdv_sidx (s : State) (d : Fin 10) (v : F) :
    (s.lineWriteAdv d v).sidx = s.sidx := rfl
@[simp] theorem State.lineWriteAdv_fidx (s : State) (d : Fin 10) (v : F) :
    (s.lineWriteAdv d v).fidx = s.fidx := rfl
@[simp] theorem State.lineWriteAdv_nf (s : State) (d : Fin 10) (v : F) : (s.lineWriteAdv d v).nf = s.nf := rfl
@[simp] theorem State.lineWriteAdv_busy (s : State) (d : Fin 10) (v : F) :
    (s.lineWriteAdv d v).busy = s.busy := rfl
@[simp] theorem State.lineWriteAdv_done (s : State) (d : Fin 10) (v : F) :
    (s.lineWriteAdv d v).done = s.done := rfl
@[simp] theorem State.lineWriteAdv_normed (s : State) (d : Fin 10) (v : F) :
    (s.lineWriteAdv d v).normed = s.normed := rfl
@[simp] theorem State.lineWriteAdv_doneIe (s : State) (d : Fin 10) (v : F) :
    (s.lineWriteAdv d v).doneIe = s.doneIe := rfl
@[simp] theorem State.lineWriteAdv_nframes (s : State) (d : Fin 10) (v : F) :
    (s.lineWriteAdv d v).nframes = s.nframes := rfl
@[simp] theorem State.lineWriteAdv_toggle (s : State) (d : Fin 10) (v : F) :
    (s.lineWriteAdv d v).toggle = s.toggle := rfl
@[simp] theorem State.lineWriteAdv_diag (s : State) (d : Fin 10) (v : F) :
    (s.lineWriteAdv d v).diag = s.diag := rfl
@[simp] theorem State.lineWriteAdv_peak (s : State) (d : Fin 10) (v : F) :
    (s.lineWriteAdv d v).peak = s.peak := rfl
@[simp] theorem State.lineWriteAdv_scale (s : State) (d : Fin 10) (v : F) :
    (s.lineWriteAdv d v).scale = s.scale := rfl
@[simp] theorem State.lineWriteAdv_params (s : State) (d : Fin 10) (v : F) :
    (s.lineWriteAdv d v).params = s.params := rfl
@[simp] theorem State.lineWriteAdv_cur (s : State) (d : Fin 10) (v : F) :
    (s.lineWriteAdv d v).cur = s.cur.set d.val ((s.cursor d + 1) % s.lineSize d) := rfl
@[simp] theorem State.lineWriteAdv_ph (s : State) (d : Fin 10) (v : F) : (s.lineWriteAdv d v).ph = s.ph := rfl
@[simp] theorem State.lineWriteAdv_dl (s : State) (d : Fin 10) (v : F) :
    (s.lineWriteAdv d v).dl = s.dl.set d.val (Memory.set 0#32 s.dl[d.val] (s.cursor d) v) := rfl
@[simp] theorem State.lineWriteAdv_blk (s : State) (d : Fin 10) (v : F) :
    (s.lineWriteAdv d v).blk = s.blk := rfl
@[simp] theorem State.lineWriteAdv_peakacc (s : State) (d : Fin 10) (v : F) :
    (s.lineWriteAdv d v).peakacc = s.peakacc := rfl
@[simp] theorem State.lineWriteAdv_wbuf (s : State) (d : Fin 10) (v : F) :
    (s.lineWriteAdv d v).wbuf = s.wbuf := rfl
@[simp] theorem State.lineWriteAdv_events (s : State) (d : Fin 10) (v : F) :
    (s.lineWriteAdv d v).events = s.events := rfl
@[simp] theorem State.lineWriteAdv_answer (s : State) (d : Fin 10) (v : F) :
    (s.lineWriteAdv d v).answer = s.answer := rfl

/-! ### `State.phaseAdv` -/

@[simp] theorem State.phaseAdv_cfg (s : State) (p : Fin 5) (f : F) : (s.phaseAdv p f).cfg = s.cfg := rfl
@[simp] theorem State.phaseAdv_inL (s : State) (p : Fin 5) (f : F) : (s.phaseAdv p f).inL = s.inL := rfl
@[simp] theorem State.phaseAdv_inR (s : State) (p : Fin 5) (f : F) : (s.phaseAdv p f).inR = s.inR := rfl
@[simp] theorem State.phaseAdv_dry (s : State) (p : Fin 5) (f : F) : (s.phaseAdv p f).dry = s.dry := rfl
@[simp] theorem State.phaseAdv_accL (s : State) (p : Fin 5) (f : F) : (s.phaseAdv p f).accL = s.accL := rfl
@[simp] theorem State.phaseAdv_accR (s : State) (p : Fin 5) (f : F) : (s.phaseAdv p f).accR = s.accR := rfl
@[simp] theorem State.phaseAdv_sidx (s : State) (p : Fin 5) (f : F) : (s.phaseAdv p f).sidx = s.sidx := rfl
@[simp] theorem State.phaseAdv_fidx (s : State) (p : Fin 5) (f : F) : (s.phaseAdv p f).fidx = s.fidx := rfl
@[simp] theorem State.phaseAdv_nf (s : State) (p : Fin 5) (f : F) : (s.phaseAdv p f).nf = s.nf := rfl
@[simp] theorem State.phaseAdv_busy (s : State) (p : Fin 5) (f : F) : (s.phaseAdv p f).busy = s.busy := rfl
@[simp] theorem State.phaseAdv_done (s : State) (p : Fin 5) (f : F) : (s.phaseAdv p f).done = s.done := rfl
@[simp] theorem State.phaseAdv_normed (s : State) (p : Fin 5) (f : F) :
    (s.phaseAdv p f).normed = s.normed := rfl
@[simp] theorem State.phaseAdv_doneIe (s : State) (p : Fin 5) (f : F) :
    (s.phaseAdv p f).doneIe = s.doneIe := rfl
@[simp] theorem State.phaseAdv_nframes (s : State) (p : Fin 5) (f : F) :
    (s.phaseAdv p f).nframes = s.nframes := rfl
@[simp] theorem State.phaseAdv_toggle (s : State) (p : Fin 5) (f : F) :
    (s.phaseAdv p f).toggle = s.toggle := rfl
@[simp] theorem State.phaseAdv_diag (s : State) (p : Fin 5) (f : F) : (s.phaseAdv p f).diag = s.diag := rfl
@[simp] theorem State.phaseAdv_peak (s : State) (p : Fin 5) (f : F) : (s.phaseAdv p f).peak = s.peak := rfl
@[simp] theorem State.phaseAdv_scale (s : State) (p : Fin 5) (f : F) : (s.phaseAdv p f).scale = s.scale := rfl
@[simp] theorem State.phaseAdv_params (s : State) (p : Fin 5) (f : F) :
    (s.phaseAdv p f).params = s.params := rfl
@[simp] theorem State.phaseAdv_cur (s : State) (p : Fin 5) (f : F) : (s.phaseAdv p f).cur = s.cur := rfl
@[simp] theorem State.phaseAdv_ph (s : State) (p : Fin 5) (f : F) :
    (s.phaseAdv p f).ph = s.ph.set p.val (s.wrap (s.fadd (s.phase p) (s.phaseInc f))) := rfl
@[simp] theorem State.phaseAdv_dl (s : State) (p : Fin 5) (f : F) : (s.phaseAdv p f).dl = s.dl := rfl
@[simp] theorem State.phaseAdv_blk (s : State) (p : Fin 5) (f : F) : (s.phaseAdv p f).blk = s.blk := rfl
@[simp] theorem State.phaseAdv_peakacc (s : State) (p : Fin 5) (f : F) :
    (s.phaseAdv p f).peakacc = s.peakacc := rfl
@[simp] theorem State.phaseAdv_wbuf (s : State) (p : Fin 5) (f : F) : (s.phaseAdv p f).wbuf = s.wbuf := rfl
@[simp] theorem State.phaseAdv_events (s : State) (p : Fin 5) (f : F) :
    (s.phaseAdv p f).events = s.events := rfl
@[simp] theorem State.phaseAdv_answer (s : State) (p : Fin 5) (f : F) :
    (s.phaseAdv p f).answer = s.answer := rfl

/-! ### `State.clearDiag` -/

@[simp] theorem State.clearDiag_cfg (s : State) (d : Data) : (s.clearDiag d).cfg = s.cfg := rfl
@[simp] theorem State.clearDiag_inL (s : State) (d : Data) : (s.clearDiag d).inL = s.inL := rfl
@[simp] theorem State.clearDiag_inR (s : State) (d : Data) : (s.clearDiag d).inR = s.inR := rfl
@[simp] theorem State.clearDiag_dry (s : State) (d : Data) : (s.clearDiag d).dry = s.dry := rfl
@[simp] theorem State.clearDiag_accL (s : State) (d : Data) : (s.clearDiag d).accL = s.accL := rfl
@[simp] theorem State.clearDiag_accR (s : State) (d : Data) : (s.clearDiag d).accR = s.accR := rfl
@[simp] theorem State.clearDiag_sidx (s : State) (d : Data) : (s.clearDiag d).sidx = s.sidx := rfl
@[simp] theorem State.clearDiag_fidx (s : State) (d : Data) : (s.clearDiag d).fidx = s.fidx := rfl
@[simp] theorem State.clearDiag_nf (s : State) (d : Data) : (s.clearDiag d).nf = s.nf := rfl
@[simp] theorem State.clearDiag_busy (s : State) (d : Data) : (s.clearDiag d).busy = s.busy := rfl
@[simp] theorem State.clearDiag_done (s : State) (d : Data) : (s.clearDiag d).done = s.done := rfl
@[simp] theorem State.clearDiag_normed (s : State) (d : Data) : (s.clearDiag d).normed = s.normed := rfl
@[simp] theorem State.clearDiag_doneIe (s : State) (d : Data) : (s.clearDiag d).doneIe = s.doneIe := rfl
@[simp] theorem State.clearDiag_nframes (s : State) (d : Data) : (s.clearDiag d).nframes = s.nframes := rfl
@[simp] theorem State.clearDiag_toggle (s : State) (d : Data) : (s.clearDiag d).toggle = s.toggle := rfl
@[simp] theorem State.clearDiag_diag (s : State) (d : Data) :
    (s.clearDiag d).diag = s.diag &&& ~~~(d.extractLsb' 0 7) := rfl
@[simp] theorem State.clearDiag_peak (s : State) (d : Data) : (s.clearDiag d).peak = s.peak := rfl
@[simp] theorem State.clearDiag_scale (s : State) (d : Data) : (s.clearDiag d).scale = s.scale := rfl
@[simp] theorem State.clearDiag_params (s : State) (d : Data) : (s.clearDiag d).params = s.params := rfl
@[simp] theorem State.clearDiag_cur (s : State) (d : Data) : (s.clearDiag d).cur = s.cur := rfl
@[simp] theorem State.clearDiag_ph (s : State) (d : Data) : (s.clearDiag d).ph = s.ph := rfl
@[simp] theorem State.clearDiag_dl (s : State) (d : Data) : (s.clearDiag d).dl = s.dl := rfl
@[simp] theorem State.clearDiag_blk (s : State) (d : Data) : (s.clearDiag d).blk = s.blk := rfl
@[simp] theorem State.clearDiag_peakacc (s : State) (d : Data) : (s.clearDiag d).peakacc = s.peakacc := rfl
@[simp] theorem State.clearDiag_wbuf (s : State) (d : Data) : (s.clearDiag d).wbuf = s.wbuf := rfl
@[simp] theorem State.clearDiag_events (s : State) (d : Data) : (s.clearDiag d).events = s.events := rfl
@[simp] theorem State.clearDiag_answer (s : State) (d : Data) : (s.clearDiag d).answer = s.answer := rfl

/-! ### `State.loadOp` -/

@[simp] theorem State.loadOp_cfg (s : State) : s.loadOp.cfg = s.cfg := rfl
@[simp] theorem State.loadOp_inL (s : State) : s.loadOp.inL = leftSample (s.frame s.fidx.toNat) := rfl
@[simp] theorem State.loadOp_inR (s : State) : s.loadOp.inR = rightSample (s.frame s.fidx.toNat) := rfl
@[simp] theorem State.loadOp_dry (s : State) :
    s.loadOp.dry = s.mono (leftSample (s.frame s.fidx.toNat)) (rightSample (s.frame s.fidx.toNat)) := rfl
@[simp] theorem State.loadOp_accL (s : State) : s.loadOp.accL = s.accL := rfl
@[simp] theorem State.loadOp_accR (s : State) : s.loadOp.accR = s.accR := rfl
@[simp] theorem State.loadOp_sidx (s : State) : s.loadOp.sidx = 1#4 := rfl
@[simp] theorem State.loadOp_fidx (s : State) : s.loadOp.fidx = s.fidx := rfl
@[simp] theorem State.loadOp_nf (s : State) : s.loadOp.nf = s.nf := rfl
@[simp] theorem State.loadOp_busy (s : State) : s.loadOp.busy = s.busy := rfl
@[simp] theorem State.loadOp_done (s : State) : s.loadOp.done = s.done := rfl
@[simp] theorem State.loadOp_normed (s : State) : s.loadOp.normed = s.normed := rfl
@[simp] theorem State.loadOp_doneIe (s : State) : s.loadOp.doneIe = s.doneIe := rfl
@[simp] theorem State.loadOp_nframes (s : State) : s.loadOp.nframes = s.nframes := rfl
@[simp] theorem State.loadOp_toggle (s : State) : s.loadOp.toggle = s.toggle := rfl
@[simp] theorem State.loadOp_diag (s : State) : s.loadOp.diag = s.diag := rfl
@[simp] theorem State.loadOp_peak (s : State) : s.loadOp.peak = s.peak := rfl
@[simp] theorem State.loadOp_scale (s : State) : s.loadOp.scale = s.scale := rfl
@[simp] theorem State.loadOp_params (s : State) : s.loadOp.params = s.params := rfl
@[simp] theorem State.loadOp_cur (s : State) : s.loadOp.cur = s.cur := rfl
@[simp] theorem State.loadOp_ph (s : State) : s.loadOp.ph = s.ph := rfl
@[simp] theorem State.loadOp_dl (s : State) : s.loadOp.dl = s.dl := rfl
@[simp] theorem State.loadOp_blk (s : State) : s.loadOp.blk = s.blk := rfl
@[simp] theorem State.loadOp_peakacc (s : State) : s.loadOp.peakacc = s.peakacc := rfl
@[simp] theorem State.loadOp_wbuf (s : State) : s.loadOp.wbuf = s.wbuf := rfl
@[simp] theorem State.loadOp_events (s : State) : s.loadOp.events = s.events := rfl
@[simp] theorem State.loadOp_answer (s : State) : s.loadOp.answer = s.answer := rfl

/-! ### `State.storeOp` -/

@[simp] theorem State.storeOp_cfg (s : State) : s.storeOp.cfg = s.cfg := rfl
@[simp] theorem State.storeOp_inL (s : State) : s.storeOp.inL = s.inL := rfl
@[simp] theorem State.storeOp_inR (s : State) : s.storeOp.inR = s.inR := rfl
@[simp] theorem State.storeOp_dry (s : State) : s.storeOp.dry = s.dry := rfl
@[simp] theorem State.storeOp_accL (s : State) : s.storeOp.accL = s.accL := rfl
@[simp] theorem State.storeOp_accR (s : State) : s.storeOp.accR = s.accR := rfl
@[simp] theorem State.storeOp_sidx (s : State) :
    s.storeOp.sidx = if s.fidx + 1#11 = s.nf then 9#4 else 0#4 := rfl
@[simp] theorem State.storeOp_fidx (s : State) : s.storeOp.fidx = s.fidx + 1#11 := rfl
@[simp] theorem State.storeOp_nf (s : State) : s.storeOp.nf = s.nf := rfl
@[simp] theorem State.storeOp_busy (s : State) : s.storeOp.busy = s.busy := rfl
@[simp] theorem State.storeOp_done (s : State) : s.storeOp.done = s.done := rfl
@[simp] theorem State.storeOp_normed (s : State) : s.storeOp.normed = s.normed := rfl
@[simp] theorem State.storeOp_doneIe (s : State) : s.storeOp.doneIe = s.doneIe := rfl
@[simp] theorem State.storeOp_nframes (s : State) : s.storeOp.nframes = s.nframes := rfl
@[simp] theorem State.storeOp_toggle (s : State) : s.storeOp.toggle = s.toggle := rfl
@[simp] theorem State.storeOp_diag (s : State) : s.storeOp.diag = s.diag := rfl
@[simp] theorem State.storeOp_peak (s : State) : s.storeOp.peak = s.peak := rfl
@[simp] theorem State.storeOp_scale (s : State) : s.storeOp.scale = s.scale := rfl
@[simp] theorem State.storeOp_params (s : State) : s.storeOp.params = s.params := rfl
@[simp] theorem State.storeOp_cur (s : State) : s.storeOp.cur = s.cur := rfl
@[simp] theorem State.storeOp_ph (s : State) : s.storeOp.ph = s.ph := rfl
@[simp] theorem State.storeOp_dl (s : State) : s.storeOp.dl = s.dl := rfl
@[simp] theorem State.storeOp_blk (s : State) : s.storeOp.blk = s.blk := rfl
@[simp] theorem State.storeOp_peakacc (s : State) :
    s.storeOp.peakacc = umax (umax s.peakacc (absInt (s.f2i s.accL))) (absInt (s.f2i s.accR)) := rfl
@[simp] theorem State.storeOp_wbuf (s : State) :
    s.storeOp.wbuf = Memory.put s.wbuf s.fidx.toNat (s.f2i s.accL, s.f2i s.accR) := rfl
@[simp] theorem State.storeOp_events (s : State) : s.storeOp.events = s.events := rfl
@[simp] theorem State.storeOp_answer (s : State) : s.storeOp.answer = s.answer := rfl

/-! ### `State.finishBlock` -/

@[simp] theorem State.finishBlock_cfg (s : State) (b : Memory Data) : (s.finishBlock b).cfg = s.cfg := rfl
@[simp] theorem State.finishBlock_inL (s : State) (b : Memory Data) : (s.finishBlock b).inL = s.inL := rfl
@[simp] theorem State.finishBlock_inR (s : State) (b : Memory Data) : (s.finishBlock b).inR = s.inR := rfl
@[simp] theorem State.finishBlock_dry (s : State) (b : Memory Data) : (s.finishBlock b).dry = s.dry := rfl
@[simp] theorem State.finishBlock_accL (s : State) (b : Memory Data) : (s.finishBlock b).accL = s.accL := rfl
@[simp] theorem State.finishBlock_accR (s : State) (b : Memory Data) : (s.finishBlock b).accR = s.accR := rfl
@[simp] theorem State.finishBlock_sidx (s : State) (b : Memory Data) : (s.finishBlock b).sidx = s.sidx := rfl
@[simp] theorem State.finishBlock_fidx (s : State) (b : Memory Data) : (s.finishBlock b).fidx = s.fidx := rfl
@[simp] theorem State.finishBlock_nf (s : State) (b : Memory Data) : (s.finishBlock b).nf = s.nf := rfl
@[simp] theorem State.finishBlock_busy (s : State) (b : Memory Data) : (s.finishBlock b).busy = false := rfl
@[simp] theorem State.finishBlock_done (s : State) (b : Memory Data) : (s.finishBlock b).done = true := rfl
@[simp] theorem State.finishBlock_normed (s : State) (b : Memory Data) :
    (s.finishBlock b).normed = s.rescales := rfl
@[simp] theorem State.finishBlock_doneIe (s : State) (b : Memory Data) :
    (s.finishBlock b).doneIe = s.doneIe := rfl
@[simp] theorem State.finishBlock_nframes (s : State) (b : Memory Data) :
    (s.finishBlock b).nframes = s.nframes := rfl
@[simp] theorem State.finishBlock_toggle (s : State) (b : Memory Data) :
    (s.finishBlock b).toggle = s.toggle := rfl
@[simp] theorem State.finishBlock_diag (s : State) (b : Memory Data) : (s.finishBlock b).diag = s.diag := rfl
@[simp] theorem State.finishBlock_peak (s : State) (b : Memory Data) :
    (s.finishBlock b).peak = s.peakacc := rfl
@[simp] theorem State.finishBlock_scale (s : State) (b : Memory Data) :
    (s.finishBlock b).scale = s.blockScale := rfl
@[simp] theorem State.finishBlock_params (s : State) (b : Memory Data) :
    (s.finishBlock b).params = s.params := rfl
@[simp] theorem State.finishBlock_cur (s : State) (b : Memory Data) : (s.finishBlock b).cur = s.cur := rfl
@[simp] theorem State.finishBlock_ph (s : State) (b : Memory Data) : (s.finishBlock b).ph = s.ph := rfl
@[simp] theorem State.finishBlock_dl (s : State) (b : Memory Data) : (s.finishBlock b).dl = s.dl := rfl
@[simp] theorem State.finishBlock_blk (s : State) (b : Memory Data) : (s.finishBlock b).blk = b := rfl
@[simp] theorem State.finishBlock_peakacc (s : State) (b : Memory Data) :
    (s.finishBlock b).peakacc = s.peakacc := rfl
@[simp] theorem State.finishBlock_wbuf (s : State) (b : Memory Data) : (s.finishBlock b).wbuf = s.wbuf := rfl
@[simp] theorem State.finishBlock_events (s : State) (b : Memory Data) :
    (s.finishBlock b).events = s.events := rfl
@[simp] theorem State.finishBlock_answer (s : State) (b : Memory Data) :
    (s.finishBlock b).answer = s.answer := rfl

/-! ### The check and the acknowledge: one field, on a condition -/

@[simp] theorem State.check_cfg (s : State) (n : Nat) : (s.check n).cfg = s.cfg := by
  unfold State.check; split <;> rfl
@[simp] theorem State.check_inL (s : State) (n : Nat) : (s.check n).inL = s.inL := by
  unfold State.check; split <;> rfl
@[simp] theorem State.check_inR (s : State) (n : Nat) : (s.check n).inR = s.inR := by
  unfold State.check; split <;> rfl
@[simp] theorem State.check_dry (s : State) (n : Nat) : (s.check n).dry = s.dry := by
  unfold State.check; split <;> rfl
@[simp] theorem State.check_accL (s : State) (n : Nat) : (s.check n).accL = s.accL := by
  unfold State.check; split <;> rfl
@[simp] theorem State.check_accR (s : State) (n : Nat) : (s.check n).accR = s.accR := by
  unfold State.check; split <;> rfl
@[simp] theorem State.check_sidx (s : State) (n : Nat) : (s.check n).sidx = s.sidx := by
  unfold State.check; split <;> rfl
@[simp] theorem State.check_fidx (s : State) (n : Nat) : (s.check n).fidx = s.fidx := by
  unfold State.check; split <;> rfl
@[simp] theorem State.check_nf (s : State) (n : Nat) : (s.check n).nf = s.nf := by
  unfold State.check; split <;> rfl
@[simp] theorem State.check_busy (s : State) (n : Nat) : (s.check n).busy = s.busy := by
  unfold State.check; split <;> rfl
@[simp] theorem State.check_done (s : State) (n : Nat) : (s.check n).done = s.done := by
  unfold State.check; split <;> rfl
@[simp] theorem State.check_normed (s : State) (n : Nat) : (s.check n).normed = s.normed := by
  unfold State.check; split <;> rfl
@[simp] theorem State.check_doneIe (s : State) (n : Nat) : (s.check n).doneIe = s.doneIe := by
  unfold State.check; split <;> rfl
@[simp] theorem State.check_nframes (s : State) (n : Nat) : (s.check n).nframes = s.nframes := by
  unfold State.check; split <;> rfl
@[simp] theorem State.check_toggle (s : State) (n : Nat) : (s.check n).toggle = s.toggle := by
  unfold State.check; split <;> rfl
@[simp] theorem State.check_diag (s : State) (n : Nat) :
    (s.check n).diag = if s.oor s.accL || s.oor s.accR then s.diag ||| (1#7 <<< n) else s.diag := by
  unfold State.check; split <;> rfl
@[simp] theorem State.check_peak (s : State) (n : Nat) : (s.check n).peak = s.peak := by
  unfold State.check; split <;> rfl
@[simp] theorem State.check_scale (s : State) (n : Nat) : (s.check n).scale = s.scale := by
  unfold State.check; split <;> rfl
@[simp] theorem State.check_params (s : State) (n : Nat) : (s.check n).params = s.params := by
  unfold State.check; split <;> rfl
@[simp] theorem State.check_cur (s : State) (n : Nat) : (s.check n).cur = s.cur := by
  unfold State.check; split <;> rfl
@[simp] theorem State.check_ph (s : State) (n : Nat) : (s.check n).ph = s.ph := by
  unfold State.check; split <;> rfl
@[simp] theorem State.check_dl (s : State) (n : Nat) : (s.check n).dl = s.dl := by
  unfold State.check; split <;> rfl
@[simp] theorem State.check_blk (s : State) (n : Nat) : (s.check n).blk = s.blk := by
  unfold State.check; split <;> rfl
@[simp] theorem State.check_peakacc (s : State) (n : Nat) : (s.check n).peakacc = s.peakacc := by
  unfold State.check; split <;> rfl
@[simp] theorem State.check_wbuf (s : State) (n : Nat) : (s.check n).wbuf = s.wbuf := by
  unfold State.check; split <;> rfl
@[simp] theorem State.check_events (s : State) (n : Nat) : (s.check n).events = s.events := by
  unfold State.check; split <;> rfl
@[simp] theorem State.check_answer (s : State) (n : Nat) : (s.check n).answer = s.answer := by
  unfold State.check; split <;> rfl
@[simp] theorem State.ackStatus_cfg (s : State) (d : Data) : (s.ackStatus d).cfg = s.cfg := by
  unfold State.ackStatus; split <;> rfl
@[simp] theorem State.ackStatus_inL (s : State) (d : Data) : (s.ackStatus d).inL = s.inL := by
  unfold State.ackStatus; split <;> rfl
@[simp] theorem State.ackStatus_inR (s : State) (d : Data) : (s.ackStatus d).inR = s.inR := by
  unfold State.ackStatus; split <;> rfl
@[simp] theorem State.ackStatus_dry (s : State) (d : Data) : (s.ackStatus d).dry = s.dry := by
  unfold State.ackStatus; split <;> rfl
@[simp] theorem State.ackStatus_accL (s : State) (d : Data) : (s.ackStatus d).accL = s.accL := by
  unfold State.ackStatus; split <;> rfl
@[simp] theorem State.ackStatus_accR (s : State) (d : Data) : (s.ackStatus d).accR = s.accR := by
  unfold State.ackStatus; split <;> rfl
@[simp] theorem State.ackStatus_sidx (s : State) (d : Data) : (s.ackStatus d).sidx = s.sidx := by
  unfold State.ackStatus; split <;> rfl
@[simp] theorem State.ackStatus_fidx (s : State) (d : Data) : (s.ackStatus d).fidx = s.fidx := by
  unfold State.ackStatus; split <;> rfl
@[simp] theorem State.ackStatus_nf (s : State) (d : Data) : (s.ackStatus d).nf = s.nf := by
  unfold State.ackStatus; split <;> rfl
@[simp] theorem State.ackStatus_busy (s : State) (d : Data) : (s.ackStatus d).busy = s.busy := by
  unfold State.ackStatus; split <;> rfl
@[simp] theorem State.ackStatus_done (s : State) (d : Data) :
    (s.ackStatus d).done = (!d.getLsbD 1 && s.done) := by
  unfold State.ackStatus; split <;> simp_all
@[simp] theorem State.ackStatus_normed (s : State) (d : Data) : (s.ackStatus d).normed = s.normed := by
  unfold State.ackStatus; split <;> rfl
@[simp] theorem State.ackStatus_doneIe (s : State) (d : Data) : (s.ackStatus d).doneIe = s.doneIe := by
  unfold State.ackStatus; split <;> rfl
@[simp] theorem State.ackStatus_nframes (s : State) (d : Data) : (s.ackStatus d).nframes = s.nframes := by
  unfold State.ackStatus; split <;> rfl
@[simp] theorem State.ackStatus_toggle (s : State) (d : Data) : (s.ackStatus d).toggle = s.toggle := by
  unfold State.ackStatus; split <;> rfl
@[simp] theorem State.ackStatus_diag (s : State) (d : Data) : (s.ackStatus d).diag = s.diag := by
  unfold State.ackStatus; split <;> rfl
@[simp] theorem State.ackStatus_peak (s : State) (d : Data) : (s.ackStatus d).peak = s.peak := by
  unfold State.ackStatus; split <;> rfl
@[simp] theorem State.ackStatus_scale (s : State) (d : Data) : (s.ackStatus d).scale = s.scale := by
  unfold State.ackStatus; split <;> rfl
@[simp] theorem State.ackStatus_params (s : State) (d : Data) : (s.ackStatus d).params = s.params := by
  unfold State.ackStatus; split <;> rfl
@[simp] theorem State.ackStatus_cur (s : State) (d : Data) : (s.ackStatus d).cur = s.cur := by
  unfold State.ackStatus; split <;> rfl
@[simp] theorem State.ackStatus_ph (s : State) (d : Data) : (s.ackStatus d).ph = s.ph := by
  unfold State.ackStatus; split <;> rfl
@[simp] theorem State.ackStatus_dl (s : State) (d : Data) : (s.ackStatus d).dl = s.dl := by
  unfold State.ackStatus; split <;> rfl
@[simp] theorem State.ackStatus_blk (s : State) (d : Data) : (s.ackStatus d).blk = s.blk := by
  unfold State.ackStatus; split <;> rfl
@[simp] theorem State.ackStatus_peakacc (s : State) (d : Data) : (s.ackStatus d).peakacc = s.peakacc := by
  unfold State.ackStatus; split <;> rfl
@[simp] theorem State.ackStatus_wbuf (s : State) (d : Data) : (s.ackStatus d).wbuf = s.wbuf := by
  unfold State.ackStatus; split <;> rfl
@[simp] theorem State.ackStatus_events (s : State) (d : Data) : (s.ackStatus d).events = s.events := by
  unfold State.ackStatus; split <;> rfl
@[simp] theorem State.ackStatus_answer (s : State) (d : Data) : (s.ackStatus d).answer = s.answer := by
  unfold State.ackStatus; split <;> rfl

end Sys2Proof.Machine
end

