-- ==== Sys2Proof/Laws/Ops.lean ====
section
/-! SUPPORT. What each shared operation can do, said once: delay lines, phases, stages, the block NORM
hands back, transactions, turns. -/

namespace Sys2Proof.Machine

/-! ### Reads through unrelated updates -/

theorem State.cursor_congr {s t : State} (h : t.cur = s.cur) (d : Fin 10) : t.cursor d = s.cursor d := by
  unfold State.cursor; rw [h]

theorem State.lineEntry_congr {s t : State} (h : t.dl = s.dl) (d : Fin 10) (k : Nat) :
    t.lineEntry d k = s.lineEntry d k := by
  unfold State.lineEntry; rw [h]

theorem State.lineSize_congr {s t : State} (h : t.cfg = s.cfg) (d : Fin 10) :
    t.lineSize d = s.lineSize d := by
  unfold State.lineSize; rw [h]

theorem State.phase_congr {s t : State} (h : t.ph = s.ph) (p : Fin 5) : t.phase p = s.phase p := by
  unfold State.phase; rw [h]

theorem State.frame_congr {s t : State} (h : t.blk = s.blk) (k : Nat) : t.frame k = s.frame k := by
  unfold State.frame; rw [h]

theorem State.workFrame?_congr {s t : State} (h : t.wbuf = s.wbuf) (k : Nat) :
    t.workFrame? k = s.workFrame? k := by
  unfold State.workFrame?; rw [h]

/-! ### Delay lines (R130, R131) -/

theorem State.cursor_lineWriteAdv (s : State) (d e : Fin 10) (v : F) :
    (s.lineWriteAdv d v).cursor e =
      if e = d then (s.cursor d + 1) % s.lineSize d else s.cursor e := by
  unfold State.cursor State.lineWriteAdv
  by_cases h : e = d
  · subst h; simp [State.cursor]
  · have : ¬ d.val = e.val := fun he => h (Fin.ext he.symm)
    simp [h, this]

theorem State.lineEntry_lineWriteAdv (s : State) (d e : Fin 10) (v : F) (k : Nat) :
    (s.lineWriteAdv d v).lineEntry e k =
      if e = d ∧ k = s.cursor d then v else s.lineEntry e k := by
  unfold State.lineEntry State.lineWriteAdv
  by_cases h : e = d
  · subst h
    simp only [Vector.getElem_set_self, Memory.get_set, true_and]
  · have : ¬ d.val = e.val := fun he => h (Fin.ext he.symm)
    simp [h, this]

@[simp] theorem State.lineSize_lineWriteAdv (s : State) (d e : Fin 10) (v : F) :
    (s.lineWriteAdv d v).lineSize e = s.lineSize e := rfl

/-- The offset `N[d]`, and the offset 0, name the entry at the cursor (R130). -/
theorem State.lineRead_size {s : State} {d : Fin 10} (h : s.cursor d < s.lineSize d) :
    s.lineRead d (s.lineSize d) = s.lineEntry d (s.cursor d) := by
  unfold State.lineRead State.lineIndex
  rw [Nat.sub_self, Nat.add_zero, Nat.mod_eq_of_lt h]

theorem State.lineRead_zero {s : State} {d : Fin 10} (h : s.cursor d < s.lineSize d) :
    s.lineRead d 0 = s.lineEntry d (s.cursor d) := by
  unfold State.lineRead State.lineIndex
  rw [Nat.sub_zero, Nat.add_mod_right, Nat.mod_eq_of_lt h]

/-! ### Several lines written with one value -/

@[simp] theorem State.linesWriteAdv_nil (s : State) (v : F) : s.linesWriteAdv [] v = s := rfl

@[simp] theorem State.linesWriteAdv_cons (s : State) (d : Fin 10) (ds : List (Fin 10)) (v : F) :
    s.linesWriteAdv (d :: ds) v = (s.lineWriteAdv d v).linesWriteAdv ds v := rfl

theorem State.linesWriteAdv_others (s : State) (ds : List (Fin 10)) (v : F) :
    s.linesWriteAdv ds v =
      { s with dl := (s.linesWriteAdv ds v).dl, cur := (s.linesWriteAdv ds v).cur } := by
  induction ds generalizing s with
  | nil => rfl
  | cons d ds ih =>
    rw [State.linesWriteAdv_cons, ih]
    rfl

theorem State.cursor_linesWriteAdv {s : State} {ds : List (Fin 10)} (h : ds.Nodup) (v : F) (e : Fin 10) :
    (s.linesWriteAdv ds v).cursor e =
      if e ∈ ds then (s.cursor e + 1) % s.lineSize e else s.cursor e := by
  induction ds generalizing s with
  | nil => simp
  | cons d ds ih =>
    obtain ⟨hd, hds⟩ := List.nodup_cons.mp h
    rw [State.linesWriteAdv_cons, ih hds, State.cursor_lineWriteAdv]
    by_cases he : e = d
    · subst he; simp [hd]
    · simp [he]

theorem State.lineEntry_linesWriteAdv {s : State} {ds : List (Fin 10)} (h : ds.Nodup) (v : F)
    (e : Fin 10) (k : Nat) :
    (s.linesWriteAdv ds v).lineEntry e k =
      if e ∈ ds ∧ k = s.cursor e then v else s.lineEntry e k := by
  induction ds generalizing s with
  | nil => simp
  | cons d ds ih =>
    obtain ⟨hd, hds⟩ := List.nodup_cons.mp h
    rw [State.linesWriteAdv_cons, ih hds, State.cursor_lineWriteAdv, State.lineEntry_lineWriteAdv]
    by_cases he : e = d
    · subst he; simp [hd]
    · simp [he]

/-! ### Phases (R137) -/

theorem State.phase_phaseAdv (s : State) (p q : Fin 5) (f : F) :
    (s.phaseAdv p f).phase q =
      if q = p then s.wrap (s.fadd (s.phase p) (s.phaseInc f)) else s.phase q := by
  unfold State.phase State.phaseAdv
  by_cases h : q = p
  · subst h; simp [State.phase]
  · have : ¬ p.val = q.val := fun he => h (Fin.ext he.symm)
    simp [h, this]

@[simp] theorem State.phaseInc_phaseAdv (s : State) (p : Fin 5) (f g : F) :
    (s.phaseAdv p f).phaseInc g = s.phaseInc g := rfl

/-! ### Stages (R237) -/

/-- All that a check can do: it writes `DIAG` and nothing else (R210). -/
theorem State.check_eq (s : State) (n : Nat) :
    s.check n =
      { s with diag := if s.oor s.accL || s.oor s.accR then s.diag ||| (1#7 <<< n) else s.diag } := by
  unfold State.check
  split <;> rfl

theorem State.stage_on {s : State} {bit : Nat} (h : s.enabled bit = true) (flag : Nat) (next : UopCode)
    (body : State → State) : s.stage bit flag next body = ((body s).check flag).setSidx next := by
  unfold State.stage; rw [if_pos h]

theorem State.stage_off {s : State} {bit : Nat} (h : s.enabled bit = false) (flag : Nat) (next : UopCode)
    (body : State → State) : s.stage bit flag next body = s.setSidx next := by
  unfold State.stage; rw [if_neg (by simp [h])]

/-- All a stage can do: stop at a cursor outside its lines, or give the stage's state. -/
theorem State.runStage_next {s t : State} {bit flag : Nat} {ds : List (Fin 10)} {next : UopCode}
    {body : State → State} (h : s.runStage bit ds flag next body = .next t) :
    t = s.stage bit flag next body ∧ (s.enabled bit = true → s.cursorsInside ds = true) := by
  unfold State.runStage at h
  split at h
  · cases h
  · rename_i hc
    refine ⟨(Host.Outcome.next.inj h).symm, fun he => ?_⟩
    simpa [he] using hc

theorem State.runStage_runs {s : State} {bit : Nat} {ds : List (Fin 10)}
    (h : s.enabled bit = true → s.cursorsInside ds = true) (flag : Nat) (next : UopCode)
    (body : State → State) :
    s.runStage bit ds flag next body = .next (s.stage bit flag next body) := by
  unfold State.runStage
  rw [if_neg]
  cases he : s.enabled bit <;> simp_all

theorem State.cursorsInside_iff (s : State) (ds : List (Fin 10)) :
    s.cursorsInside ds = true ↔ ∀ d ∈ ds, s.cursor d < s.lineSize d := by
  simp [State.cursorsInside]

/-! ### The block NORM hands back (R220) -/

/-- The block has its first `n` frames made from `WBUF` and every other entry as it was. -/
theorem State.outBlock?_spec {s : State} {n : Nat} {b : Memory Data} (h : s.outBlock? n = some b) :
    (∀ k, k < n → ∃ w, s.workFrame? k = some w ∧ Memory.get 0#32 b k = s.outFrame w) ∧
    (∀ k, n ≤ k → Memory.get 0#32 b k = s.frame k) := by
  induction n generalizing b with
  | zero =>
    obtain rfl := Option.some.inj h
    exact ⟨fun k hk => absurd hk (Nat.not_lt_zero k), fun k _ => rfl⟩
  | succ n ih =>
    rw [State.outBlock?] at h
    split at h
    · rename_i b' w hb' hw
      obtain rfl := Option.some.inj h
      obtain ⟨below, above⟩ := ih hb'
      constructor
      · intro k hk
        by_cases hkn : k = n
        · subst hkn
          exact ⟨w, hw, Memory.get_set_same ..⟩
        · obtain ⟨w', hw', hg⟩ := below k (by omega)
          exact ⟨w', hw', by rw [Memory.get_set_other _ _ _ hkn, hg]⟩
      · intro k hk
        rw [Memory.get_set_other _ _ _ (by omega), above k (by omega)]
    · cases h

/-- There is such a block when every frame below `n` has been stored. -/
theorem State.outBlock?_isSome {s : State} {n : Nat} (h : ∀ k, k < n → ∃ w, s.workFrame? k = some w) :
    ∃ b, s.outBlock? n = some b := by
  induction n with
  | zero => exact ⟨_, rfl⟩
  | succ n ih =>
    obtain ⟨b, hb⟩ := ih fun k hk => h k (by omega)
    obtain ⟨w, hw⟩ := h n (by omega)
    exact ⟨_, by rw [State.outBlock?, hb, hw]⟩

theorem State.outBlock?_wf {s : State} {n size : Nat} {b : Memory Data} (h : s.outBlock? n = some b)
    (hb : Memory.wf (some 0#32) size s.blk = true) (hn : n ≤ size) :
    Memory.wf (some 0#32) size b = true := by
  induction n generalizing b with
  | zero => obtain rfl := Option.some.inj h; exact hb
  | succ n ih =>
    rw [State.outBlock?] at h
    split at h
    · rename_i b' w hb' hw
      obtain rfl := Option.some.inj h
      exact Memory.wf_set _ (ih hb' (by omega)) (by omega)
    · cases h

/-- All NORM can do: a fault, or the finished block. -/
theorem execNorm_next {s t : State} (h : execNorm s = .next t) :
    s.nf.toNat ≤ s.cfg.blockMax ∧ ∃ b, s.outBlock? s.nf.toNat = some b ∧ t = s.finishBlock b := by
  unfold execNorm at h
  split at h
  · rename_i hn
    split at h
    · rename_i b hb
      exact ⟨hn, b, hb, (Host.Outcome.next.inj h).symm⟩
    · cases h
  · cases h

/-! ### Turns (R81, R236) -/

/-- The engine has the turn, and `rest` are the turns after it. -/
def engineHasTurn (s : State) (rest : List Event) : Prop :=
  s.events = [] ∧ rest = [] ∨ s.events = .engine :: rest

theorem nextTurn_engine {s : State} {rest : List Event} (h : engineHasTurn s rest) :
    nextTurn s = engineTurn (s.withEvents rest) := by
  rcases h with ⟨he, rfl⟩ | he
  · have : s.withEvents [] = s := by rw [← he]; rfl
    simp [nextTurn, he, this]
  · simp [nextTurn, he]

theorem engineTurn_busy {s : State} {i : Instr} (hb : s.busy = true) (hd : decodeUop s.sidx = some i) :
    engineTurn s = .run i s := by
  simp [engineTurn, hb, hd]

theorem engineTurn_idle {s : State} (hb : s.busy = false) : engineTurn s = .settle s := by
  simp [engineTurn, hb]

/-- All a step can do. -/
theorem step_next {s t : State} (h : step s = .next t) :
    (∃ w rest, s.events = .host w :: rest ∧ exec (decodeTxn w) (s.withEvents rest) = .next t) ∨
    (∃ rest, s.events = .reset :: rest ∧ t = (s.withEvents rest).resetNow) ∨
    (∃ rest, engineHasTurn s rest ∧ s.busy = false ∧ t = s.withEvents rest) ∨
    (∃ rest i, engineHasTurn s rest ∧ s.busy = true ∧ decodeUop s.sidx = some i ∧
      exec i (s.withEvents rest) = .next t) := by
  have engine : ∀ rest, engineHasTurn s rest →
      (∃ rest, engineHasTurn s rest ∧ s.busy = false ∧ t = s.withEvents rest) ∨
      (∃ rest i, engineHasTurn s rest ∧ s.busy = true ∧ decodeUop s.sidx = some i ∧
        exec i (s.withEvents rest) = .next t) := by
    intro rest hr
    unfold step at h
    rw [nextTurn_engine hr] at h
    cases hb : s.busy with
    | false =>
      rw [engineTurn_idle (by simpa using hb)] at h
      exact Or.inl ⟨rest, hr, rfl, (Host.Outcome.next.inj h).symm⟩
    | true =>
      cases hd : decodeUop s.sidx with
      | none => simp [engineTurn, hb, hd] at h
      | some i =>
        rw [engineTurn_busy (i := i) (by simpa using hb) (by simpa using hd)] at h
        exact Or.inr ⟨rest, i, hr, rfl, rfl, h⟩
  cases he : s.events with
  | nil => exact Or.inr (Or.inr (by simpa [he] using engine [] (Or.inl ⟨he, rfl⟩)))
  | cons e rest =>
    cases e with
    | host w =>
      refine Or.inl ⟨w, rest, rfl, ?_⟩
      simpa [step, nextTurn, he] using h
    | engine => exact Or.inr (Or.inr (by simpa [he] using engine rest (Or.inr he)))
    | reset =>
      refine Or.inr (Or.inl ⟨rest, rfl, ?_⟩)
      have := h
      simp [step, nextTurn, he] at this
      exact this.symm

end Sys2Proof.Machine
end

