-- ==== Sys2Proof/Laws/PerInstr.lean ====
section
/-! SUPPORT. One statement made for every operation: how many bytes its encoding has (R100, R101, R103;
the byte layout is log entry 5). -/

namespace Sys2Proof.Laws.EncodedLength

/-- A transaction is six bytes, a micro-operation one. -/
def Statement (i : Instr) : Prop :=
  (encode i).length = (match encodeWord i with | .txn _ => 6 | .uop _ => 1)

theorem wr (a : Addr) (d : Data) : Statement (.wr a d) := rfl
theorem rd (x : Addr) : Statement (.rd x) := rfl
theorem start : Statement .start := rfl
theorem ack : Statement .ack := rfl
theorem clrd (x : Data) : Statement (.clrd x) := rfl
theorem setie (x : Data) : Statement (.setie x) := rfl
theorem setn (x : Data) : Statement (.setn x) := rfl
theorem sett (x : Data) : Statement (.sett x) := rfl
theorem setpGvol (x : Data) : Statement (.setpGvol x) := rfl
theorem setpRvLevel (x : Data) : Statement (.setpRvLevel x) := rfl
theorem setpRvFb (x : Data) : Statement (.setpRvFb x) := rfl
theorem setpRvDamp (x : Data) : Statement (.setpRvDamp x) := rfl
theorem setpChLevel (x : Data) : Statement (.setpChLevel x) := rfl
theorem setpChDepth (x : Data) : Statement (.setpChDepth x) := rfl
theorem setpChSpeed (x : Data) : Statement (.setpChSpeed x) := rfl
theorem setpStWidth (x : Data) : Statement (.setpStWidth x) := rfl
theorem setpLimThresh (x : Data) : Statement (.setpLimThresh x) := rfl
theorem setpLimEn (x : Data) : Statement (.setpLimEn x) := rfl
theorem ldf (k : BitVec 10) (l r : Sample) : Statement (.ldf k l r) := rfl
theorem rdf (x : BitVec 10) : Statement (.rdf x) := rfl
theorem rds : Statement .rds := rfl
theorem load : Statement .load := rfl
theorem vol : Statement .vol := rfl
theorem echo : Statement .echo := rfl
theorem reverb : Statement .reverb := rfl
theorem chorus : Statement .chorus := rfl
theorem vibrato : Statement .vibrato := rfl
theorem tremolo : Statement .tremolo := rfl
theorem stereo : Statement .stereo := rfl
theorem store : Statement .store := rfl
theorem norm : Statement .norm := rfl

end Sys2Proof.Laws.EncodedLength
end

