-- ==== Sys2Proof/Machine/Bridge.lean ====
section
/-! DEFINITION. What spec/20_memory.md R72 and R73 ask of a byte-addressed bridge in front of the port.
The bridge is outside EFX (log entry 20); its accesses become transactions or are refused there. -/

namespace Sys2Proof.Machine

/-- How wide an access of the outer system is. -/
inductive AccessWidth where
  | byte
  | halfWord
  | word
  deriving DecidableEq, Repr

/-- The transaction of a write access at a byte address: `addr` stands at byte address `4 * addr`
(R72); a narrower access is refused, never turned into a read-modify-write (R73). -/
def bridgeWrite (width : AccessWidth) (byteAddr : Nat) (d : Data) : Option TxnWord :=
  match width with
  | .word =>
    if byteAddr % 4 = 0 ∧ byteAddr < 4 * 0x1000 then
      some (writeWord (BitVec.ofNat 12 (byteAddr / 4)) d)
    else none
  | .byte => none
  | .halfWord => none

/-- The transaction of a read access at a byte address (R72, R73). -/
def bridgeRead (width : AccessWidth) (byteAddr : Nat) : Option TxnWord :=
  match width with
  | .word =>
    if byteAddr % 4 = 0 ∧ byteAddr < 4 * 0x1000 then
      some (readWord (BitVec.ofNat 12 (byteAddr / 4)))
    else none
  | .byte => none
  | .halfWord => none

/-- The four bytes of a word in the bridge's memory, lowest address first: little-endian (R72). -/
def bridgeBytes (w : Data) : List Byte :=
  [w.extractLsb' 0 8, w.extractLsb' 8 8, w.extractLsb' 16 8, w.extractLsb' 24 8]

end Sys2Proof.Machine
end

