-- ==== Sys2Proof/Tests/Slice0.lean ====
section
/-! SUPPORT. Tests. Each expected value is the spec's: the tables of spec/30_encoding.md, the examples of the
rules, the vectors of spec/95_test_vectors.md. After them, for every statement of the certificate that has
hypotheses, a theorem `witness_<its name>` that a concrete state and operands meet them all together. -/

open Sys2Proof Sys2Proof.Machine

namespace Sys2Proof.Tests

/-! ### A small machine: eight frames, short lines, both open phases at +0.0 -/

def testCfg : Cfg :=
  { Cfg.default with
    cap := #v[3, 2, 2, 2, 2, 2, 2, 2, 2, 2], blockMax := 8, phiC1Reset := 0#32, phiC2Reset := 0#32 }

def idle : State := State.resetOf testCfg

/-- A block of one frame, just started. -/
def busy : State := { idle with busy := true, nframes := 1#11, nf := 1#11 }

/-- Every stage on. -/
def allOn : State := { idle with toggle := 0x3F#6 }

/-- The next state, if there is one. -/
def after : Host.Outcome State Fault Refusal → Option State
  | .next t => some t
  | _ => none

/-- What the port answers to an operation. -/
def answerOf (s : State) (i : Instr) : Option Answer := (after (exec i s)).bind State.answer

/-- Every delay line with one entry, the one at its cursor. -/
def withTaps (s : State) (taps : List F) : State :=
  { s with dl := Vector.ofFn fun d : Fin 10 => [(0, taps.getD d.val 0#32)] }

def accepted : Option Answer := some ⟨false, 0#32⟩
def refused : Option Answer := some ⟨true, 0#32⟩

/-! ### WellFormed: an ill-formed term for each check -/

theorem test_wellFormed_refuses_start_as_write : ¬ WellFormed (.wr 0x000#12 1#32) := by decide
theorem test_wellFormed_refuses_ack_as_write : ¬ WellFormed (.wr 0x001#12 2#32) := by decide
theorem test_wellFormed_refuses_control_as_write : ¬ WellFormed (.wr 0x004#12 0#32) := by decide
theorem test_wellFormed_refuses_parameter_as_write :
    ¬ WellFormed (.wr 0x010#12 0#32) ∧ ¬ WellFormed (.wr 0x019#12 0#32) := by decide
theorem test_wellFormed_refuses_frame_as_write :
    ¬ WellFormed (.wr 0x400#12 0#32) ∧ ¬ WellFormed (.wr 0x7FF#12 0#32) := by decide
theorem test_wellFormed_refuses_status_as_read : ¬ WellFormed (.rd 0x001#12) := by decide
theorem test_wellFormed_refuses_frame_as_read : ¬ WellFormed (.rd 0x400#12) := by decide

/-! ### Decoding: words written out from R101, R104, R117 -/

/-- Bit 44 is `we`, bits 43:32 the address, bits 31:0 the data (R101). -/
theorem test_decode_plain_write :
    decodeTableWord 48 0b1000000000110_00000000000000000000000000000101 = some (.wr 0x006#12 5#32) := by decide
theorem test_decode_plain_read :
    decodeTableWord 48 0b0000000010000_00000000000000000000000000000000 = some (.rd 0x010#12) := by decide
theorem test_decode_commands :
    decodeTableWord 48 0x100000000001 = some .start ∧ decodeTableWord 48 0x100100000002 = some .ack ∧
    decodeTableWord 48 0x100500000005 = some (.clrd 5#32) ∧
    decodeTableWord 48 0x100200000003 = some (.setie 3#32) ∧
    decodeTableWord 48 0x100300000400 = some (.setn 0x400#32) ∧
    decodeTableWord 48 0x1004FFFFFFE1 = some (.sett 0xFFFFFFE1#32) := by decide
theorem test_decode_parameters :
    decodeTableWord 48 0x10107FC00001 = some (.setpGvol 0x7FC00001#32) ∧
    decodeTableWord 48 0x101112345678 = some (.setpRvLevel 0x12345678#32) ∧
    decodeTableWord 48 0x10123E99999A = some (.setpRvFb 0x3E99999A#32) ∧
    decodeTableWord 48 0x10133F000000 = some (.setpRvDamp 0x3F000000#32) ∧
    decodeTableWord 48 0x101400000001 = some (.setpChLevel 1#32) ∧
    decodeTableWord 48 0x101580000000 = some (.setpChDepth 0x80000000#32) ∧
    decodeTableWord 48 0x10163F800000 = some (.setpChSpeed 0x3F800000#32) ∧
    decodeTableWord 48 0x101700000000 = some (.setpStWidth 0#32) ∧
    decodeTableWord 48 0x101846FFFE00 = some (.setpLimThresh 0x46FFFE00#32) ∧
    decodeTableWord 48 0x1019FFFFFFFE = some (.setpLimEn 0xFFFFFFFE#32) := by decide
/-- The left sample is the low half of the frame word (R54, R117). -/
theorem test_decode_frames :
    decodeTableWord 48 0x1400FFFE0003 = some (.ldf 0#10 3#16 0xFFFE#16) ∧
    decodeTableWord 48 0x07FF00000000 = some (.rdf 1023#10) ∧
    decodeTableWord 48 0x000100000000 = some .rds := by decide
theorem test_decode_micro_operations :
    [0x0, 0x1, 0x2, 0x3, 0x4, 0x5, 0x6, 0x7, 0x8, 0x9].map (decodeTableWord 8) =
      [some .load, some .vol, some .echo, some .reverb, some .chorus, some .vibrato, some .tremolo,
        some .stereo, some .store, some .norm] := by decide
/-- R101: the top three bits of the six bytes are zero; R112: codes 10 to 15 name nothing. -/
theorem test_decode_refuses_reserved :
    decodeTableWord 48 0x200000000000 = none ∧ decodeTableWord 8 0xA = none ∧
    decodeTableWord 8 0xF = none ∧ decodeTableWord 8 0x10 = none ∧ decode [] = .error (.badLength 0) := by
  decide
/-- R117: the words of the table, from the operation. -/
theorem test_encode_words :
    encodeWord .start = .txn 0x100000000001#45 ∧ encodeWord .ack = .txn 0x100100000002#45 ∧
    encodeWord (.setpGvol 0x40000000#32) = .txn 0x101040000000#45 ∧
    encodeWord (.ldf 2#10 5#16 5#16) = .txn 0x140200050005#45 ∧
    encodeWord (.rdf 3#10) = .txn 0x040300000000#45 ∧ encodeWord .rds = .txn 0x000100000000#45 ∧
    encodeWord .norm = .uop 9#4 := by decide

/-! ### The interface: the decoded instruction is the next one the step runs -/

theorem test_withFetchWord_transaction :
    (after (step (State.reset.withFetchWord 48 0x1004FFFFFFE1))).map State.toggle = some 0x21#6 := by decide
theorem test_withFetchWord_micro_operation :
    (after (step (State.reset.withFetchWord 8 0x1))).map State.sidx = some 2#4 := by decide +kernel

/-! ### Numerics: V4 of spec/95_test_vectors.md -/

theorem test_f2i : [0x3FF33333#32, 0xBFF33333#32, 0x80000000#32, 0x46FFFFFF#32, 0x7FC00000#32, 0x7F800000#32,
      0xFF800000#32, 0x4F000000#32, 0xCF000000#32, 0x4EFFFFFF#32].map (fun x => (f2i x).toInt) =
    [1, -1, 0, 32767, 0, 2147483647, -2147483648, 2147483647, -2147483648, 2147483520] := by decide +kernel
theorem test_i2f : [32767, -32768, 16777217, 16777219].map i2f =
    [0x46FFFE00#32, 0xC7000000#32, 0x4B800000#32, 0x4B800002#32] := by decide +kernel
theorem test_sat16 : [32768#32, BitVec.ofInt 32 (-32769), 32767#32, BitVec.ofInt 32 (-32768), 0#32].map
    (fun i => (sat16 i).toInt) = [32767, -32768, 32767, -32768, 0] := by decide +kernel
theorem test_oor : [0x46FFFE00#32, 0x46FFFE01#32, 0xC7000000#32, 0xC7000001#32, 0x7FC00000#32, 0x7F800000#32].map
    oor = [false, true, false, true, true, true] := by decide +kernel
theorem test_fge : fge twoPi twoPi = true ∧ fge 0x7FC00000#32 twoPi = false ∧ fge 0#32 0x80000000#32 = true := by
  decide +kernel
theorem test_mono : idle.mono 3#16 0xFFFE#16 = 0x3F000000#32 ∧ idle.mono 0x7FFF#16 0x8000#16 = 0xBF000000#32 ∧
    idle.mono 0x8000#16 0x8000#16 = 0xC7000000#32 ∧ idle.mono 5#16 0xFFFB#16 = 0#32 := by decide +kernel
theorem test_fmul : fmul gEcho 0x447A0000#32 = 0x43960000#32 ∧ fmul gEcho 0x42C80000#32 = 0x41F00001#32 := by
  decide +kernel
theorem test_fdiv : [32768, 49150, 40000, 2 ^ 31].map (fun p => fdiv ceiling (u2f p)) =
    [0x3F7FFE00#32, 0x3F2AAB1C#32, 0x3F51B574#32, 0x377FFE00#32] := by decide +kernel
theorem test_fadd_zeros : fadd 0#32 0x80000000#32 = 0#32 ∧ fadd 0x80000000#32 0x80000000#32 = 0x80000000#32 ∧
    fadd 0x447A0000#32 0xC47A0000#32 = 0#32 := by decide +kernel
/-- R21: what the laws fix of another numerics record. -/
theorem test_other_record : numMul (.other 7) 0x7FC00001#32 one = 0x7FC00001#32 ∧
    numI2f (.other 7) (-65536) = 0xC7800000#32 ∧ numMul (.other 7) 0x477FFF00#32 half = 0x46FFFF00#32 ∧
    numF2i (.other 7) 0xC7000000#32 = 0xFFFF8000#32 ∧ numF2i (.other 7) 0x80000000#32 = 0#32 ∧
    numSin (.other 7) .correctlyRounded 0#32 = 0#32 := by decide +kernel
/-- R190: the sine of the value nearest π/2 is 1.0. -/
theorem test_sine_quarter_turn : sine .correctlyRounded 0x3FC90FDB#32 = one := by decide +kernel

/-! ### Host operations: V5, V6, V7 -/

theorem test_read_answers : [0x001#12, 0x007#12, 0x010#12, 0x012#12, 0x019#12, 0x000#12, 0x7FF#12].map
    (fun a => answerOf State.reset (.rd a)) =
    [0x00000000#32, 0x3F800000#32, 0x3F800000#32, 0x3E99999A#32, 1#32, 0#32, 0#32].map
      (fun v => some ⟨false, v⟩) := by decide +kernel
theorem test_read_refused : [0x008#12, 0x00F#12, 0x01A#12, 0x3FF#12, 0x800#12, 0xFFF#12].map
    (fun a => answerOf State.reset (.rd a)) = List.replicate 6 refused := by decide +kernel
theorem test_write_answers : [(0x003#12, 1024#32), (0x003#12, 1025#32), (0x003#12, 0x80000000#32), (0x006#12, 5#32),
      (0x000#12, 0#32), (0x000#12, 2#32), (0x000#12, 3#32), (0x00F#12, 1#32), (0x400#12, 0xFFFE0003#32)].map
    (fun w => answerOf State.reset (.wr w.1 w.2)) =
    [accepted, refused, refused, accepted, accepted, refused, refused, refused, accepted] := by decide +kernel
theorem test_write_refused_while_busy : [(0x000#12, 1#32), (0x400#12, 0#32), (0x004#12, 0x3F#32), (0x003#12, 7#32),
      (0x001#12, 2#32)].map (fun w => answerOf busy (.wr w.1 w.2)) =
    [refused, refused, accepted, accepted, accepted] := by decide +kernel
theorem test_start_latches : (after (exec .start { idle with nframes := 2#11, done := true, normed := true })).map
    (fun t => (t.nf, t.sidx, t.statusWord)) = some (2#11, 0#4, 5#32) := by decide
theorem test_start_of_no_frames : (after (exec .start idle)).map (fun t => (t.sidx, t.statusWord)) =
    some (9#4, 1#32) := by decide
theorem test_ack_lowers_irq : (after (exec .ack { idle with done := true, normed := true, doneIe := true })).map
    (fun t => (t.statusWord, t.irq)) = some (4#32, false) := by decide
theorem test_clrd : (after (exec (.clrd 5#32) { idle with diag := 0x45#7 })).map State.diag = some 0x40#7 := by
  decide
theorem test_setie_keeps_done : (after (exec (.setie 0#32) { idle with done := true, doneIe := true })).map
    (fun t => (t.irq, t.done)) = some (false, true) := by decide
theorem test_setn_keeps_nf : (after (exec (.setn 7#32) busy)).map (fun t => (t.nframes, t.nf)) =
    some (7#11, 1#11) := by decide
theorem test_sett_keeps_low_bits : (after (exec (.sett 0xFFFFFFE1#32) idle)).map State.toggle = some 0x21#6 := by
  decide
theorem test_setp_stores_the_bits :
    ([Instr.setpGvol 0x7FC00001#32, .setpRvLevel 2#32, .setpRvFb 3#32, .setpRvDamp 4#32, .setpChLevel 5#32,
      .setpChDepth 6#32, .setpChSpeed 7#32, .setpStWidth 8#32, .setpLimThresh 9#32,
      .setpLimEn 0xFFFFFFFE#32].foldl (fun s i => (after (exec i s)).getD State.reset) idle).params =
    ⟨0x7FC00001#32, 2#32, 3#32, 4#32, 5#32, 6#32, 7#32, 8#32, 9#32, false⟩ := by decide +kernel
theorem test_ldf_packs_left_low : (after (exec (.ldf 0#10 3#16 0xFFFE#16) idle)).map (fun t => t.frame 0) =
    some 0xFFFE0003#32 := by decide +kernel
theorem test_rdf_reads_the_frame :
    answerOf { idle with blk := [(7, 0x2AAA7FFE#32)] } (.rdf 7#10) = some ⟨false, 0x2AAA7FFE#32⟩ := by decide +kernel
theorem test_rds : answerOf { idle with done := true, normed := true } .rds = some ⟨false, 6#32⟩ := by decide

/-! ### Micro-operations: the examples of the rules -/

/-- R150. -/
theorem test_load : (after (exec .load { idle with blk := [(0, 0xFFFE0003#32)] })).map
    (fun t => (t.inL.toInt, t.inR.toInt, t.dry, t.sidx)) = some (3, -2, 0x3F000000#32, 1#4) := by decide +kernel
/-- R151. -/
theorem test_vol : (after (exec .vol { idle with
      inL := 1000#16, inR := 0xFC18#16, params := { idle.params with gvol := 0x3F000000#32 } })).map
    (fun t => (t.accL, t.accR, t.diag)) = some (0x43FA0000#32, 0xC3FA0000#32, 0#7) := by decide +kernel
/-- R160. -/
theorem test_echo : (after (exec .echo { withTaps allOn [0x447A0000#32] with
      accL := 0x42C80000#32, accR := 0x42C80000#32, dry := 0x42480000#32 })).map
    (fun t => (t.accL, t.accR, t.lineEntry 0 0, t.cursor 0)) =
    some (0x43C80000#32, 0x43C80000#32, 0x42480000#32, 1) := by decide +kernel
/-- R169. -/
theorem test_reverb : (after (exec .reverb { withTaps allOn [0#32, 0x42800000#32, 0#32, 0#32, 0x43000000#32] with
      dry := 0x41200000#32, params := { idle.params with rvFb := 0x3F000000#32, rvDamp := 0x3F000000#32 } })).map
    (fun t => (t.accL, t.accR, t.lineEntry 1 0, t.lineEntry 5 0, t.cursor 5, t.cursor 6)) =
    some (0x4123D70B#32, 0x4123D70B#32, 0x420E6666#32, 0x420E6666#32, 1, 0) := by decide +kernel
/-- R183. -/
theorem test_chorus : (after (exec .chorus
      { withTaps allOn [0#32, 0#32, 0#32, 0#32, 0#32, 0#32, 0x447A0000#32, 0#32, 0x44FA0000#32] with
        accL := 0x3F800000#32, accR := 0x40000000#32, dry := 0x40E00000#32 })).map
    (fun t => (t.accL, t.accR, t.lineEntry 6 0, t.lineEntry 8 0, t.phase 0, t.phase 2)) =
    some (0x42980000#32, 0x429A0000#32, 0x40E00000#32, 0x40E00000#32, 0x39156593#32, 0x39156593#32) := by
  decide +kernel
/-- R190, both examples. -/
theorem test_vibrato : (after (exec .vibrato { allOn with
      accL := 0x447A0000#32, accR := 0xC69C4000#32 })).map (fun t => (t.accL, t.accR, t.phase 3)) =
    some (0x447A0000#32, 0xC69C4000#32, 0x39E0185C#32) := by decide +kernel
theorem test_vibrato_quarter_turn : (after (exec .vibrato { allOn with
      accL := 0x447A0000#32, ph := #v[0#32, 0#32, 0#32, 0x3FC90FDB#32, 0#32] })).map State.accL =
    some 0x4480C000#32 := by decide +kernel
/-- R195, both examples. -/
theorem test_tremolo : (after (exec .tremolo { allOn with
      accL := 0x447A0000#32, accR := 0xC69C4000#32 })).map (fun t => (t.accL, t.accR, t.phase 4)) =
    some (0x44548000#32, 0xC684D000#32, 0x39E0185C#32) := by decide +kernel
theorem test_tremolo_quarter_turn : (after (exec .tremolo { allOn with
      accL := 0x447A0000#32, ph := #v[0#32, 0#32, 0#32, 0#32, 0x3FC90FDB#32] })).map State.accL =
    some 0x44674000#32 := by decide +kernel
/-- R200. -/
theorem test_stereo : (after (exec .stereo { withTaps allOn (List.replicate 9 0#32 ++ [0x46FFFE00#32]) with
      accL := 0x46FFFE00#32, accR := 0x46FFFE00#32, dry := 0x46FFFE00#32 })).map
    (fun t => (t.accL, t.accR, t.diag, t.lineEntry 9 0, t.cursor 9)) =
    some (0x473FFE80#32, 0x467FFE00#32, 0x40#7, 0x46FFFE00#32, 1) := by decide +kernel
/-- R237. -/
theorem test_stage_off : after (exec .stereo idle) = some { idle with sidx := 8#4 } := by decide
/-- R215. -/
theorem test_store : (after (exec .store { idle with
      accL := 0x473FFE80#32, accR := 0x467FFE00#32, peakacc := 32767#32, fidx := 4#11, nf := 8#11 })).map
    (fun t => (t.workFrame? 4, t.peakacc, t.fidx, t.sidx)) =
    some (some (49150#32, 16383#32), 49150#32, 5#11, 0#4) := by decide +kernel

/-- The state of R227. -/
def beforeNorm : State :=
  { idle with
    busy := true, sidx := 9#4, nf := 2#11, fidx := 2#11, peakacc := 49150#32
    wbuf := [(0, (32767#32, BitVec.ofInt 32 (-100))), (1, (49150#32, 16383#32))] }

/-- R227. -/
theorem test_norm : (after (exec .norm beforeNorm)).map
    (fun t => (t.frame 0, t.frame 1, t.peak, t.scale, t.statusWord)) =
    some (0xFFBE5554#32, 0x2AAA7FFE#32, 0xBFFE#32, 0x3F2AAB1C#32, 6#32) := by decide +kernel
/-- R220: at a peak of 32767 nothing is rescaled. -/
theorem test_norm_at_the_ceiling : (after (exec .norm { idle with
      nf := 1#11, peakacc := 32767#32, wbuf := [(0, (32767#32, BitVec.ofInt 32 (-32767)))] })).map
    (fun t => (t.frame 0, t.scale, t.statusWord)) = some (0x80017FFF#32, one, 2#32) := by decide +kernel

/-! ### The bridge (R72, R73) -/

theorem test_bridge : bridgeWrite .word 0x10 0x21#32 = some 0x100400000021#45 ∧
    bridgeRead .word 0x1000 = some 0x040000000000#45 ∧ bridgeWrite .halfWord 0x10 0#32 = none ∧
    bridgeRead .word 0x11 = none ∧ bridgeBytes 0xFFFE0003#32 = [0x03#8, 0x00#8, 0xFE#8, 0xFF#8] := by decide

/-! ### Witnesses -/

theorem idle_inv : idle.Inv where
  cfgWf := by decide
  cursors := by decide
  lines := by decide
  blkWf := rfl
  wbufWf := rfl
  nframesLe := by decide
  nfLe := by decide
  fidxLe := by decide
  sidxLe := by decide
  position := by intro h; cases h
  busyNotDone := by intro h; cases h
  written := by intro h; cases h
  peakaccLe := by decide
  peakLe := by decide
  scaleNumber := by decide

theorem busy_inv : busy.Inv :=
  { idle_inv with
    nframesLe := by decide
    nfLe := by decide
    fidxLe := by decide
    position := fun _ => .inl (by decide)
    busyNotDone := fun _ => rfl
    written := fun _ k hk => absurd hk (Nat.not_lt_zero k) }

/-- A block of one frame is waiting: the largest sample on the left, its negative on the right. -/
def loaded : State := { idle with nframes := 1#11, blk := [(0, 0x80017FFF#32)] }

theorem loaded_inv : loaded.Inv := { idle_inv with nframesLe := by decide, blkWf := by decide }

theorem idle_silent : idle.Silent where
  input := ⟨rfl, rfl⟩
  block := fun _ => rfl
  work := nofun
  lines := by
    intro d k
    have h : idle.dl[d.val] = [] := by revert d; decide
    simp only [State.lineEntry, h]
    rfl
  dry := rfl
  acc := ⟨rfl, rfl⟩
  peak := rfl
  finite := by decide

theorem witness_DecodeAfterEncodeIsIdentity : WellFormed (.wr 0x000#12 0#32) ∧ WellFormed (.wr 0xFFF#12 1#32) ∧
    WellFormed (.rd 0x3FF#12) ∧ WellFormed (.ldf 1023#10 0x8000#16 0x7FFF#16) ∧ WellFormed .norm := by decide

theorem witness_StepRunsTheDecodedTransaction : ∃ (s : State) (w : TxnWord) (rest : List Event) (i : Instr),
    s.events = .host w :: rest ∧ decode (txnBytes w) = .ok i :=
  ⟨{ idle with events := [.host 0x100400000021#45] }, 0x100400000021#45, [], .sett 0x21#32, rfl, rfl⟩

/-- Both ways the engine has the turn. -/
theorem witness_StepRunsTheMicroOperationOfSidx :
    (busy.events = [] ∧ busy.busy = true ∧ decode [0#4 ++ busy.sidx] = .ok .load) ∧
    ({ busy with events := [.engine], sidx := 9#4 }.events = [.engine] ∧
      decode [0#4 ++ { busy with events := [.engine], sidx := 9#4 }.sidx] = .ok .norm) :=
  ⟨⟨rfl, rfl, rfl⟩, rfl, rfl⟩

/-- Each of the three clauses, the last at both ends of 10 to 15. -/
theorem witness_IdleResetAndStuckTurns : (idle.events = [] ∧ idle.busy = false) ∧
    (∃ s : State, s.events = [.reset]) ∧
    (∃ s : State, s.events = [] ∧ s.busy = true ∧ s.sidx = 10#4 ∧ 10 ≤ s.sidx.toNat) ∧
    (∃ s : State, s.events = [.engine] ∧ s.busy = true ∧ s.sidx = 15#4 ∧ 10 ≤ s.sidx.toNat) :=
  ⟨⟨rfl, rfl⟩, ⟨{ idle with events := [.reset] }, rfl⟩, ⟨{ busy with sidx := 10#4 }, rfl, rfl, rfl, by decide⟩,
    ⟨{ busy with sidx := 15#4, events := [.engine] }, rfl, rfl, rfl, by decide⟩⟩

theorem witness_EveryStepKeepsTheInvariant : ∃ t : State, busy.Inv ∧ step busy = .next t := ⟨_, busy_inv, rfl⟩

theorem witness_NoStepStops : idle.Inv ∧ busy.Inv := ⟨idle_inv, busy_inv⟩

theorem witness_NoStepChangesTheParameterRecord : ∃ t : State, step busy = .next t := ⟨_, rfl⟩

/-- Codes 0 and 7, STORE before and at the last frame, NORM. -/
theorem witness_SequencerMovesInItsFixedOrder : ∃ t0 t7 t8 t8' t9 : State,
    step busy = .next t0 ∧ step { busy with sidx := 7#4 } = .next t7 ∧
    step { busy with sidx := 8#4 } = .next t8 ∧ step { busy with sidx := 8#4, nf := 2#11 } = .next t8' ∧
    step beforeNorm = .next t9 ∧ t8.sidx = 9#4 ∧ t8'.sidx = 0#4 := by
  refine ⟨_, _, _, _, _, rfl, rfl, rfl, rfl, rfl, ?_, ?_⟩ <;> decide +kernel

theorem witness_BlockTakesNineStepsAFrameAndOneMore : ∃ u : State,
    loaded.Inv ∧ loaded.busy = false ∧ loaded.events = [] ∧ exec .start loaded = .next u ∧
    1 ≤ 9 * loaded.nframes.toNat := ⟨_, loaded_inv, rfl, rfl, rfl, by decide⟩

theorem witness_EngineStepsComputeTheBlockFunction :
    busy.Inv ∧ busy.busy = true ∧ busy.sidx = 0#4 ∧ busy.events = [] ∧ busy.framesLeft = 1 :=
  ⟨busy_inv, rfl, rfl, rfl, rfl⟩

theorem witness_HostReadsDoNotDisturbTheEngine : ∃ (es : List Event) (t : State),
    (∀ e ∈ es, e = .engine ∨ ∃ w : TxnWord, w.getLsbD 44 = false ∧ e = .host w) ∧
    Host.Core.run core es.length { busy with events := es } = .next t := by
  refine ⟨[.host 0x000100000000#45, .engine], _, ?_, rfl⟩
  intro e he
  rcases List.mem_cons.mp he with h | h
  · exact .inr ⟨_, rfl, h⟩
  · exact .inl (List.mem_singleton.mp h)

theorem witness_AllStagesOffPassesTheBlockThrough : ∃ u : State, loaded.Inv ∧ loaded.busy = false ∧
    loaded.events = [] ∧ loaded.toggle = 0#6 ∧ loaded.params.gvol = one ∧
    (∀ k : Nat, k < loaded.nframes.toNat →
      leftSample (loaded.frame k) ≠ 0x8000#16 ∧ rightSample (loaded.frame k) ≠ 0x8000#16) ∧
    exec .start loaded = .next u := by
  refine ⟨_, loaded_inv, rfl, rfl, rfl, rfl, ?_, rfl⟩
  intro k hk
  have h : k = 0 := by simpa [loaded] using hk
  subst h
  decide

/-- Both ways the factors are finite. -/
theorem witness_SilenceStaysSilence : ∃ t : State, isMicroOp .reverb = true ∧ { idle with toggle := 2#6 }.Silent ∧
    { idle with toggle := 2#6 }.FiniteFactors ∧ { idle with toggle := 2#6 }.cfg.num = .binary32 ∧
    (∀ p : Fin 5, isFinite ({ idle with toggle := 2#6 }.phase p) = true) ∧
    exec .reverb { idle with toggle := 2#6 } = .next t := by
  refine ⟨_, rfl, { idle_silent with }, ?_, rfl, by decide, rfl⟩
  unfold State.FiniteFactors
  decide +kernel

theorem witness_StartLatchesTheBlockAndSetsBusy : idle.busy = false ∧ loaded.busy = false := ⟨rfl, rfl⟩

/-- The clauses with a range or a mode, at both ends of it: the holes, the `BLK` window of eight entries and
what lies past it, idle and busy; NFRAMES at and past `BLOCK_MAX`; the commands. -/
theorem witness_WriteTransactionsFollowTheTable :
    ([(0x000#12, 1#32), (0x000#12, 0#32), (0x000#12, 2#32), (0x003#12, 8#32), (0x003#12, 9#32), (0x400#12, 1#32),
      (0x407#12, 1#32), (0x408#12, 1#32), (0xFFF#12, 1#32), (0x008#12, 1#32), (0x00F#12, 1#32), (0x01A#12, 1#32),
      (0x3FF#12, 1#32)].map fun w => answerOf idle (.wr w.1 w.2)) =
      [accepted, accepted, refused, accepted, refused, accepted, accepted, refused, refused, refused, refused,
        refused, refused] ∧
    ([(0x000#12, 1#32), (0x400#12, 1#32), (0x407#12, 1#32)].map fun w => answerOf busy (.wr w.1 w.2)) =
      [refused, refused, refused] ∧
    (List.range 26).all (fun a =>
      (answerOf idle (.wr (BitVec.ofNat 12 a) 0#32) == accepted) == (decide (a ≤ 7) || decide (16 ≤ a))) = true := by
  decide +kernel

theorem witness_ReadTransactionsFollowTheTable :
    ([0x400#12, 0x407#12].map fun a => answerOf idle (.rd a)) = [accepted, accepted] ∧
    ([0x400#12, 0x407#12].map fun a => answerOf busy (.rd a)) = [refused, refused] ∧
    ([0x008#12, 0x00F#12, 0x01A#12, 0x3FF#12, 0x408#12, 0xFFF#12].map fun a => answerOf idle (.rd a)) =
      List.replicate 6 refused := by decide +kernel

theorem witness_ControlRegisterFormsComplete : (8#32).toNat ≤ idle.cfg.blockMax ∧
    idle.cfg.blockMax < (9#32).toNat := by decide

theorem witness_FrameAndStatusFormsComplete : idle.busy = false ∧ (7#10).toNat < idle.cfg.blockMax := by decide

theorem witness_BlockMemoryIsClosedWhileBusy : (busy.busy = true ∧ (0#10).toNat < busy.cfg.blockMax) ∧
    (idle.busy = false ∧ idle.cfg.blockMax ≤ (8#10).toNat) ∧ idle.cfg.blockMax ≤ (1023#10).toNat := by decide

/-- Each of the five causes, and a transaction with none of them. -/
theorem witness_RefusalHasExactlyFiveCauses :
    ([(0x408#12, 0#32), (0x000#12, 2#32), (0x003#12, 9#32), (0x004#12, 0#32)].map fun w =>
      answerOf idle (.wr w.1 w.2)) = [refused, refused, refused, accepted] ∧
    ([(0x400#12, 0#32), (0x000#12, 1#32)].map fun w => answerOf busy (.wr w.1 w.2)) = [refused, refused] ∧
    answerOf busy (.rd 0x407#12) = refused ∧ answerOf busy (.rd 0x000#12) = accepted := by decide +kernel

theorem witness_TransactionsLeaveTheEngineAlone : ∃ t u : State,
    isMicroOp (.clrd 0x7F#32) = false ∧ exec (.clrd 0x7F#32) busy = .next t ∧
    encodeWord (.clrd 0x7F#32) ≠ .txn (writeWord 0x000#12 1#32) ∧
    isMicroOp .start = false ∧ exec .start idle = .next u := ⟨_, _, rfl, rfl, by decide, rfl, rfl⟩

/-- A write of entry 0, seen from entry 1. -/
theorem witness_TransactionsStoreOnlyTheNamedFrame : ∃ t : State,
    isMicroOp (.ldf 0#10 5#16 6#16) = false ∧ exec (.ldf 0#10 5#16 6#16) idle = .next t ∧
    (∀ a d, Instr.ldf 0#10 5#16 6#16 = .wr a d → hostTarget idle.cfg a ≠ .blk 1) ∧
    (∀ j l r, Instr.ldf 0#10 5#16 6#16 = .ldf j l r → hostTarget idle.cfg (frameAddr j) ≠ .blk 1) := by
  refine ⟨_, rfl, rfl, nofun, ?_⟩
  intro j l r h
  cases h
  decide

/-- Both ends of the parameter addresses. -/
theorem witness_ParametersReadBackTheBitsWritten : ∃ t u : State,
    0x010 ≤ (0x010#12).toNat ∧ (0x018#12).toNat ≤ 0x018 ∧ exec (.wr 0x010#12 0x7FC00001#32) idle = .next t ∧
    exec (.wr 0x018#12 0x7FC00001#32) busy = .next u := ⟨_, _, by decide, by decide, rfl, rfl⟩

theorem witness_InterruptFollowsCompletion : ∃ t0 t1 t2 t3 t4 : State,
    exec .norm beforeNorm = .next t0 ∧ (idle.busy = false ∧ exec .start idle = .next t1) ∧
    exec .ack idle = .next t2 ∧ ((0#32).getLsbD 0 = false ∧ exec (.setie 0#32) idle = .next t3) ∧
    isMicroOp .store = true ∧ exec .store busy = .next t4 := ⟨_, _, _, _, _, rfl, ⟨rfl, rfl⟩, rfl, ⟨rfl, rfl⟩, rfl, rfl⟩

/-- The last entry of the block memory. -/
theorem witness_LoadLatchesTheFrameAndItsDownmix :
    { idle with fidx := 7#11 }.fidx.toNat < { idle with fidx := 7#11 }.cfg.blockMax := by decide

/-- The last entry of the line, the stage on and off. -/
theorem witness_EchoAddsTheDelayedDrySignal : ∃ s : State,
    s.cursor 0 = 2 ∧ s.cursor 0 < s.lineSize 0 ∧ s.toggle.getLsbD 0 = true ∧ idle.cursor 0 < idle.lineSize 0 ∧
    idle.toggle.getLsbD 0 = false :=
  ⟨{ allOn with cur := #v[2, 0, 0, 0, 0, 0, 0, 0, 0, 0] }, by decide⟩

theorem witness_ReverbFeedsBackOneSum :
    (∀ d : Fin 10, d ∈ [1, 2, 3, 4, 5] → allOn.cursor d < allOn.lineSize d) ∧ allOn.toggle.getLsbD 1 = true ∧
    (∀ d : Fin 10, d ∈ [1, 2, 3, 4, 5] → idle.cursor d < idle.lineSize d) ∧ idle.toggle.getLsbD 1 = false := by
  decide

theorem witness_ChorusMixesThreeModulatedVoices :
    (∀ d : Fin 10, d ∈ [6, 7, 8] → allOn.cursor d < allOn.lineSize d) ∧ allOn.toggle.getLsbD 2 = true ∧
    (∀ d : Fin 10, d ∈ [6, 7, 8] → idle.cursor d < idle.lineSize d) ∧ idle.toggle.getLsbD 2 = false := by decide

theorem witness_VibratoModulatesTheAccumulators : allOn.toggle.getLsbD 3 = true ∧ idle.toggle.getLsbD 3 = false := by
  decide

theorem witness_TremoloModulatesTheAccumulators : allOn.toggle.getLsbD 4 = true ∧ idle.toggle.getLsbD 4 = false := by
  decide

theorem witness_WidenerAddsLeftAndSubtractsRight : allOn.cursor 9 < allOn.lineSize 9 ∧
    allOn.toggle.getLsbD 5 = true ∧ idle.cursor 9 < idle.lineSize 9 ∧ idle.toggle.getLsbD 5 = false := by decide

theorem witness_DisabledStagesOnlyMoveTheSequencer :
    [(Instr.echo, 0), (.reverb, 1), (.chorus, 2), (.vibrato, 3), (.tremolo, 4), (.stereo, 5)].all
      (fun e => idle.toggle.getLsbD e.2 == false) = true := by decide

theorem witness_StoreQuantisesAndTracksThePeak :
    { idle with fidx := 7#11 }.fidx.toNat < { idle with fidx := 7#11 }.cfg.blockMax := by decide

theorem witness_NormRescalesTheWholeBlock : beforeNorm.nf.toNat ≤ beforeNorm.cfg.blockMax ∧
    (∀ k : Nat, k < beforeNorm.nf.toNat → ∃ w, beforeNorm.workFrame? k = some w) := by
  refine ⟨by decide, ?_⟩
  intro k hk
  have h : k = 0 ∨ k = 1 := by
    have : k < 2 := hk
    omega
  rcases h with rfl | rfl <;> exact ⟨_, rfl⟩

/-- The largest sample at the ceiling, the least one just above it, the widest integer at the widest peak. -/
theorem witness_RescaledSamplesStayInRange : idle.cfg.num = .binary32 ∧
    [(32767#32, 32767#32), (BitVec.ofInt 32 (-32768), 32768#32), (0x80000000#32, 0x80000000#32)].all
      (fun e => decide ((absInt e.1).toNat ≤ e.2.toNat) && decide (e.2.toNat ≤ 2 ^ 31)) = true := by decide

theorem witness_MicroOperationsStoreOnlyWhatTheyOwn : ∃ t0 t1 t2 : State,
    isMicroOp .echo = true ∧ exec .echo allOn = .next t0 ∧ isMicroOp .store = true ∧ exec .store busy = .next t1 ∧
    isMicroOp .norm = true ∧ exec .norm beforeNorm = .next t2 ∧ (1 : Fin 10) ∉ ownedLines .echo :=
  ⟨_, _, _, rfl, rfl, rfl, rfl, rfl, rfl, by decide⟩

theorem witness_EngineOnlySetsDiagnosticsAndWritesNoControl : ∃ t : State,
    isMicroOp .stereo = true ∧ exec .stereo { allOn with diag := 1#7 } = .next t := ⟨_, rfl, rfl⟩

theorem witness_StorageOnlyParametersAreNeverRead : ∃ (t : State) (p : ParamRegs), isMicroOp .chorus = true ∧
    p ≠ allOn.params ∧ p.gvol = allOn.params.gvol ∧ p.rvFb = allOn.params.rvFb ∧ p.rvDamp = allOn.params.rvDamp ∧
    p.chDepth = allOn.params.chDepth ∧ p.chSpeed = allOn.params.chSpeed ∧ exec .chorus allOn = .next t :=
  ⟨_, { allOn.params with rvLevel := 1#32, limEn := false }, rfl, by decide, rfl, rfl, rfl, rfl, rfl, rfl⟩

theorem witness_DiagnosticsDoNotReachTheDatapath : ∃ s' t : State, isMicroOp .vol = true ∧
    s' ≠ busy ∧ busy.functional = s'.functional ∧ exec .vol busy = .next t :=
  ⟨{ busy with diag := 0x7F#7, normed := true }, _, rfl, by decide +kernel, rfl, rfl⟩

/-- The full capacity of a line of three entries. -/
theorem witness_LineReturnsWhatWasWrittenBefore : idle.cursor 0 < idle.lineSize 0 ∧
    ([1#32, 2#32] : List F).length + 1 = idle.lineSize 0 := by decide

theorem witness_ChorusOffsetIsTheCursor : ∃ s : State, s.cursor 0 = 2 ∧ s.cursor 0 < s.lineSize 0 :=
  ⟨{ idle with cur := #v[2, 0, 0, 0, 0, 0, 0, 0, 0, 0] }, by decide⟩

/-- The last value before 2π, and the negative zero. -/
theorem witness_WrappedPhaseStaysInTheTurn : idle.cfg.num = .binary32 ∧ inTurn 0x40C90FDA#32 = true ∧ inTurn 0x80000000#32 = true := by
  decide +kernel

theorem witness_LowFrequencyPhasesStayInTheTurn : ∃ s t : State, s.cfg.num = .binary32 ∧ s.cfg.sr = 4 ∧ 3 < s.cfg.sr ∧
    inTurn (s.phase 3) = true ∧ inTurn (s.phase 4) = true ∧ step s = .next t :=
  ⟨{ busy with cfg := { testCfg with sr := 4 }, sidx := 5#4, toggle := 8#6 }, _, rfl, rfl, by decide, by decide +kernel,
    by decide +kernel, rfl⟩

/-- A tie between two subnormals, and the tie above `2^24`. -/
theorem witness_RoundingIsToNearestTiesToEven : (0 < 2 ∧ roundMag 3 2 = 2 ∧ roundMag 3 2 < 0x7F800000) ∧
    (roundMag ((2 ^ 24 + 1) * oneUnits) 1 = 0x4B800000 ∧ 0x4B800000 < 0x7F800000) := by decide +kernel

theorem witness_SmallIntegersAreExact : ((2 ^ 24 : Nat) : Int).natAbs ≤ 2 ^ 24 ∧
    (-((2 ^ 24 : Nat) : Int)).natAbs ≤ 2 ^ 24 := by decide

theorem witness_MonoIsTheExactMean : idle.cfg.num = .binary32 := rfl

/-- For each law, values at the ends of its range. -/
theorem witness_NumericsRecordObeysItsLaws : isFinite 0xFF7FFFFF#32 = true ∧
    (isZero 0#32 = true ∧ isZero 0x80000000#32 = true) ∧ isNaN 0x80000000#32 = false ∧
    isNaN 0x7F800000#32 = false ∧ NumChoice.other 0 ≠ .binary32 := by decide +kernel

/-- Both clauses with a condition: an infinity and the largest finite value. -/
theorem witness_SineObeysItsLaws : isFinite 0x7F800000#32 = false ∧ isFinite 0x7F7FFFFF#32 = true := by decide +kernel

theorem witness_SubtractingIsAddingTheNegatedProduct :
    isNaN (fsub 0x46FFFE00#32 (fmul 0x3F000000#32 0x46FFFE00#32)) = false := by decide +kernel

end Sys2Proof.Tests
end

/-! The one rounding of binary32 (R11): what a pattern is worth, and that the rounding is to nearest, ties to
even. -/

namespace Sys2Proof.Machine

/-! ### The value of a pattern -/

theorem withSign_pos (p : Nat) : withSign false p = BitVec.ofNat 32 p := by
  simp only [withSign, Bool.false_eq_true, if_false]

/-- A pattern below `2^31` read as a kept integer `q` of 24 bits, `k` places above the last unit. -/
theorem magUnits_kept {k q : Nat} (normal : k = 0 ∨ 2 ^ 23 ≤ q) (hq : q ≤ 2 ^ 24)
    (hp : k * 2 ^ 23 + q < 2 ^ 31) (neg : Bool) :
    magUnits (withSign neg (k * 2 ^ 23 + q)) = q * 2 ^ k := by
  rw [magUnits, expField_withSign hp, fracField_withSign hp]
  rcases Nat.lt_or_ge q (2 ^ 23) with small | large
  · obtain rfl : k = 0 := by omega
    rw [if_pos (by omega), pow_zero]
    omega
  · rw [if_neg (by omega)]
    rcases Nat.lt_or_ge q (2 ^ 24) with below | top
    · rw [show (k * 2 ^ 23 + q) / 2 ^ 23 - 1 = k by omega,
        show 2 ^ 23 + (k * 2 ^ 23 + q) % 2 ^ 23 = q by omega]
    · rw [show (k * 2 ^ 23 + q) / 2 ^ 23 - 1 = k + 1 by omega,
        show 2 ^ 23 + (k * 2 ^ 23 + q) % 2 ^ 23 = 2 ^ 23 by omega, show q = 2 ^ 23 * 2 by omega, pow_succ]
      ring

/-- Every pattern has that reading. -/
theorem exists_kept (p : Nat) : ∃ k q, p = k * 2 ^ 23 + q ∧ (k = 0 ∨ 2 ^ 23 ≤ q) ∧ q < 2 ^ 24 := by
  rcases Nat.lt_or_ge p (2 ^ 24) with small | large
  · exact ⟨0, p, by omega, .inl rfl, small⟩
  · exact ⟨p / 2 ^ 23 - 1, p % 2 ^ 23 + 2 ^ 23, by omega, .inr (by omega), by omega⟩

theorem toNat_mod_withSign {p : Nat} (hp : p < 2 ^ 31) (neg : Bool) : (withSign neg p).toNat % 2 ^ 31 = p := by
  rw [toNat_withSign hp]
  split <;> omega

/-- The magnitude of a value is the one of its pattern without the sign. -/
theorem magUnits_pattern (x : F) (neg : Bool) : magUnits (withSign neg (x.toNat % 2 ^ 31)) = magUnits x := by
  have hp : x.toNat % 2 ^ 31 < 2 ^ 31 := Nat.mod_lt _ (by decide)
  rw [magUnits, magUnits, expField_withSign hp, fracField_withSign hp]
  rw [show x.toNat % 2 ^ 31 / 2 ^ 23 = expField x by simp only [expField]; omega,
    show x.toNat % 2 ^ 31 % 2 ^ 23 = fracField x by simp only [fracField]; omega]

/-- Two patterns of one magnitude are one pattern. -/
theorem magUnits_withSign_inj {p m : Nat} {a b : Bool} (hp : p < 2 ^ 31) (hm : m < 2 ^ 31)
    (h : magUnits (withSign a p) = magUnits (withSign b m)) : p = m := by
  rcases Nat.lt_trichotomy p m with lt | rfl | gt
  · have := magUnits_lt (x := withSign a p) (y := withSign b m)
      (by rwa [toNat_mod_withSign hp, toNat_mod_withSign hm])
    omega
  · rfl
  · have := magUnits_lt (x := withSign b m) (y := withSign a p)
      (by rwa [toNat_mod_withSign hp, toNat_mod_withSign hm])
    omega

/-- The order of patterns is the order of magnitudes, weakly. -/
theorem magUnits_le {x y : F} (h : x.toNat % 2 ^ 31 ≤ y.toNat % 2 ^ 31) : magUnits x ≤ magUnits y := by
  rcases Nat.lt_or_eq_of_le h with lt | eq
  · exact Nat.le_of_lt (magUnits_lt lt)
  · rw [← magUnits_pattern x false, ← magUnits_pattern y false, eq]

theorem isFinite_iff (x : F) : isFinite x = true ↔ x.toNat % 2 ^ 31 < 0x7F800000 := by
  simp only [isFinite, expField, bne_iff_ne]
  omega

/-- The largest finite value. -/
theorem magUnits_le_of_isFinite {x : F} (h : isFinite x = true) : magUnits x ≤ (2 ^ 24 - 1) * 2 ^ 253 := by
  have hp := (isFinite_iff x).mp h
  obtain ⟨k, q, hkq, normal, hq⟩ := exists_kept (x.toNat % 2 ^ 31)
  rw [← magUnits_pattern x false, hkq, magUnits_kept normal (by omega) (by omega)]
  exact Nat.mul_le_mul (by omega) (Nat.pow_le_pow_right (by decide) (by omega))

/-! ### To the nearest integer, ties to even -/

/-- All that `nearestEven` can answer. -/
theorem nearestEven_cases (n d : Nat) :
    (nearestEven n d = n / d ∧ (2 * (n % d) < d ∨ 2 * (n % d) = d ∧ n / d % 2 = 0)) ∨
    (nearestEven n d = n / d + 1 ∧ (d < 2 * (n % d) ∨ 2 * (n % d) = d ∧ n / d % 2 = 1)) := by
  have e : nearestEven n d = if d < 2 * (n % d) ∨ 2 * (n % d) = d ∧ n / d % 2 = 1 then n / d + 1 else n / d := rfl
  rw [e]
  split <;> omega

theorem le_nearestEven (n d : Nat) : n / d ≤ nearestEven n d := by
  rcases nearestEven_cases n d with ⟨h, -⟩ | ⟨h, -⟩ <;> omega

theorem nearestEven_le (n d : Nat) : nearestEven n d ≤ n / d + 1 := by
  rcases nearestEven_cases n d with ⟨h, -⟩ | ⟨h, -⟩ <;> omega

/-- Below the midpoint under `m`, the nearest integer is below `m`. -/
theorem nearestEven_lt {n d m : Nat} (h : 2 * n < (2 * m - 1) * d) : nearestEven n d < m := by
  have hn := Nat.div_add_mod n d
  rcases nearestEven_cases n d with ⟨e, -⟩ | ⟨e, up⟩
  · have : 2 * (n / d) * d < (2 * m - 1) * d := by
      calc 2 * (n / d) * d = 2 * (d * (n / d)) := by ring
        _ < (2 * m - 1) * d := by omega
    have := Nat.lt_of_mul_lt_mul_right this
    omega
  · have : (2 * (n / d) + 1) * d < (2 * m - 1) * d := by
      calc (2 * (n / d) + 1) * d = 2 * (d * (n / d)) + d := by ring
        _ < (2 * m - 1) * d := by omega
    have := Nat.lt_of_mul_lt_mul_right this
    omega

/-- How far `n` is from `d * w`. -/
def distance (n d w : Nat) : Nat := ((n : Int) - d * w).natAbs

/-- The distance to a multiple at or below the quotient. -/
theorem distance_below {n d w : Nat} (h : w ≤ n / d) : distance n d w = n % d + d * (n / d - w) := by
  obtain ⟨a, ha⟩ := Nat.exists_eq_add_of_le h
  have hn := Nat.div_add_mod n d
  rw [ha] at hn ⊢
  generalize n % d = r at *
  subst hn
  have gap : ((d * (w + a) + r : Nat) : Int) - d * w = ((r + d * a : Nat) : Int) := by
    push_cast
    ring
  rw [Nat.add_sub_cancel_left, distance, gap, Int.natAbs_natCast]

/-- The distance to a multiple above the quotient. -/
theorem distance_above {n d w : Nat} (hd : 0 < d) (h : n / d < w) :
    distance n d w = (d - n % d) + d * (w - (n / d + 1)) := by
  obtain ⟨a, rfl⟩ := Nat.exists_eq_add_of_le (Nat.succ_le_of_lt h)
  have hn := Nat.div_add_mod n d
  have hr := Nat.mod_lt n hd
  rw [Nat.succ_eq_add_one, Nat.add_sub_cancel_left, distance]
  generalize n / d = q at *
  generalize n % d = r at *
  subst hn
  have gap : ((d * q + r : Nat) : Int) - d * ((q + 1 + a : Nat) : Int) = -((d - r + d * a : Nat) : Int) := by
    push_cast [Nat.cast_sub hr.le]
    ring
  rw [gap, Int.natAbs_neg, Int.natAbs_natCast]

/-- No multiple is nearer than the one `nearestEven` names, and at a tie that one is even. -/
theorem nearestEven_nearest {n d : Nat} (hd : 0 < d) (w : Nat) :
    distance n d (nearestEven n d) ≤ distance n d w ∧
      (distance n d (nearestEven n d) = distance n d w → w ≠ nearestEven n d → nearestEven n d % 2 = 0) := by
  have hr := Nat.mod_lt n hd
  have apart : ∀ a : Nat, a = 0 ∨ d ≤ d * a := fun a =>
    a.eq_zero_or_pos.imp_right fun ha => Nat.le_mul_of_pos_right d ha
  have other : (w ≤ n / d ∧ distance n d w = n % d + d * (n / d - w)) ∨
      (n / d < w ∧ distance n d w = (d - n % d) + d * (w - (n / d + 1))) :=
    (Nat.lt_or_ge (n / d) w).symm.imp (fun h => ⟨h, distance_below h⟩) (fun h => ⟨h, distance_above hd h⟩)
  have hbelow := apart (n / d - w)
  have habove := apart (w - (n / d + 1))
  rcases nearestEven_cases n d with ⟨e, near⟩ | ⟨e, near⟩
  · rw [e, distance_below le_rfl, Nat.sub_self, Nat.mul_zero]
    omega
  · rw [e, distance_above hd (Nat.lt_succ_self _), Nat.sub_self, Nat.mul_zero]
    omega

/-! ### The one rounding (R11) -/

/-- How far the last kept bit stands above the last unit. -/
def roundShift (n d : Nat) : Nat := Nat.log2 (n / d) - 23

/-- The integer that the rounding keeps. -/
def roundKept (n d : Nat) : Nat := nearestEven n (d * 2 ^ roundShift n d)

theorem roundMag_eq (n d : Nat) :
    roundMag n d = min (roundShift n d * 2 ^ 23 + roundKept n d) 0x7F800000 := rfl

/-- The kept integer has 24 bits, or fewer at the subnormals, before it is rounded. -/
theorem roundShift_quotient (n d : Nat) : n / (d * 2 ^ roundShift n d) < 2 ^ 24 ∧
    (roundShift n d = 0 ∨ 2 ^ 23 ≤ n / (d * 2 ^ roundShift n d)) := by
  rw [← Nat.div_div_eq_div_mul]
  have upper : n / d < 2 ^ ((n / d).log2 + 1) := Nat.lt_log2_self
  constructor
  · rw [Nat.div_lt_iff_lt_mul (Nat.two_pow_pos _), ← pow_add]
    exact upper.trans_le (Nat.pow_le_pow_right (by decide) (by simp only [roundShift]; omega))
  · rcases Nat.eq_zero_or_pos (roundShift n d) with h | h
    · exact .inl h
    · right
      have nonzero : n / d ≠ 0 := by
        intro h0
        simp [roundShift, h0] at h
      rw [Nat.le_div_iff_mul_le (Nat.two_pow_pos _), ← pow_add]
      calc 2 ^ (23 + roundShift n d) = 2 ^ (n / d).log2 := by congr 1; simp only [roundShift] at *; omega
        _ ≤ n / d := Nat.log2_self_le nonzero

theorem roundKept_bounds (n d : Nat) :
    roundKept n d ≤ 2 ^ 24 ∧ (roundShift n d = 0 ∨ 2 ^ 23 ≤ roundKept n d) := by
  obtain ⟨upper, lower⟩ := roundShift_quotient n d
  have h1 := le_nearestEven n (d * 2 ^ roundShift n d)
  have h2 := nearestEven_le n (d * 2 ^ roundShift n d)
  unfold roundKept
  omega

/-- The value of a finite result. -/
theorem magUnits_roundMag {n d : Nat} (h : roundMag n d < 0x7F800000) (neg : Bool) :
    magUnits (withSign neg (roundMag n d)) = roundKept n d * 2 ^ roundShift n d := by
  obtain ⟨upper, normal⟩ := roundKept_bounds n d
  have e := roundMag_eq n d
  rw [show roundMag n d = roundShift n d * 2 ^ 23 + roundKept n d by omega]
  exact magUnits_kept normal upper (by omega) neg

/-- Scaling both the step and the distance. -/
theorem distance_mul (n d k w : Nat) : distance n (d * 2 ^ k) w = distance n d (w * 2 ^ k) := by
  unfold distance
  congr 2
  push_cast
  ring

/-- A value below the kept integer's own places, or a multiple of its last place. -/
theorem magUnits_grid (m k : Nat) (hm : m < 2 ^ 31) (neg : Bool) :
    magUnits (withSign neg m) < 2 ^ 23 * 2 ^ k ∨ ∃ w, magUnits (withSign neg m) = w * 2 ^ k := by
  obtain ⟨j, q, rfl, normal, hq⟩ := exists_kept m
  rw [magUnits_kept normal hq.le hm]
  rcases Nat.lt_or_ge j k with h | h
  · left
    calc q * 2 ^ j < 2 ^ 24 * 2 ^ j := Nat.mul_lt_mul_of_pos_right hq (Nat.two_pow_pos _)
      _ = 2 ^ 23 * 2 ^ (j + 1) := by ring
      _ ≤ 2 ^ 23 * 2 ^ k := Nat.mul_le_mul_left _ (Nat.pow_le_pow_right (by decide) h)
  · exact .inr ⟨q * 2 ^ (j - k), by rw [Nat.mul_assoc, ← pow_add, Nat.sub_add_cancel h]⟩

/-- A value below a multiple that is not above `n` is farther from `n` than that multiple. -/
theorem distance_lt_of_lt {n d v w : Nat} (hd : 0 < d) (hv : v < w) (hw : d * w ≤ n) :
    distance n d w < distance n d v := by
  have : d * v < d * w := Nat.mul_lt_mul_of_pos_left hv hd
  unfold distance
  omega

/-- The one rounding is to nearest, and at a tie to the even pattern. -/
theorem roundMag_nearest {n d m : Nat} (hd : 0 < d) (h : roundMag n d < 0x7F800000) (hm : m < 2 ^ 31) (neg : Bool) :
    distance n d (magUnits (withSign neg (roundMag n d))) ≤ distance n d (magUnits (withSign neg m)) ∧
      (distance n d (magUnits (withSign neg (roundMag n d))) = distance n d (magUnits (withSign neg m)) →
        m ≠ roundMag n d → roundMag n d % 2 = 0) := by
  have parity : roundMag n d % 2 = roundKept n d % 2 := by have := roundMag_eq n d; omega
  have hD : 0 < d * 2 ^ roundShift n d := Nat.mul_pos hd (Nat.two_pow_pos _)
  obtain ⟨-, normal⟩ := roundShift_quotient n d
  rw [parity, magUnits_roundMag h, ← distance_mul]
  by_cases grid : ∃ w, magUnits (withSign neg m) = w * 2 ^ roundShift n d
  · obtain ⟨w, hw⟩ := grid
    obtain ⟨nearest, even⟩ := nearestEven_nearest (n := n) hD w
    rw [hw, ← distance_mul]
    refine ⟨nearest, fun tie ne => even tie ?_⟩
    rintro rfl
    refine ne (magUnits_withSign_inj hm (by omega) ?_ (a := neg) (b := neg))
    rw [hw, magUnits_roundMag h]
    rfl
  · have small := (magUnits_grid m (roundShift n d) hm neg).resolve_right grid
    have big : 2 ^ 23 ≤ n / (d * 2 ^ roundShift n d) :=
      normal.resolve_left fun h0 => grid ⟨magUnits (withSign neg m), by rw [h0, pow_zero, Nat.mul_one]⟩
    have closer : distance n (d * 2 ^ roundShift n d) (roundKept n d) < distance n d (magUnits (withSign neg m)) :=
      calc distance n (d * 2 ^ roundShift n d) (roundKept n d)
        _ ≤ distance n (d * 2 ^ roundShift n d) (2 ^ 23) := (nearestEven_nearest hD _).1
        _ = distance n d (2 ^ 23 * 2 ^ roundShift n d) := distance_mul ..
        _ < distance n d (magUnits (withSign neg m)) := by
          refine distance_lt_of_lt hd small ?_
          calc d * (2 ^ 23 * 2 ^ roundShift n d) = 2 ^ 23 * (d * 2 ^ roundShift n d) := by ring
            _ ≤ n := (Nat.le_div_iff_mul_le hD).mp big
    exact ⟨closer.le, fun tie => absurd tie closer.ne⟩

/-- Settles O53, by `roundMag_nearest`: against a multiple of the last kept place the kept integer is the nearest
one, and a value with places below it lies under the whole range of kept integers. -/
theorem roundingIsToNearestTiesToEven : Obligations.RoundingIsToNearestTiesToEven := by
  intro n d hd h m hm
  have nearest := roundMag_nearest hd h (show m < 2 ^ 31 by omega) false
  simpa only [distance, withSign_pos] using nearest

end Sys2Proof.Machine

/-! Exact results of the rounding, and the integers of binary32 (R12, R13). -/

namespace Sys2Proof.Machine

/-! ### Exact results -/

/-- Below the midpoint above the largest finite value the rounding is finite. -/
theorem roundMag_lt {n d : Nat} (h : 2 * n < (2 * 2 ^ 24 - 1) * (d * 2 ^ 253)) : roundMag n d < 0x7F800000 := by
  obtain ⟨upper, -⟩ := roundKept_bounds n d
  obtain ⟨-, normal⟩ := roundShift_quotient n d
  have shift : roundShift n d ≤ 253 := by
    rcases normal with h0 | lower
    · omega
    · by_contra above
      have kept : 2 ^ 23 * (d * 2 ^ roundShift n d) ≤ n := by
        have hD : 0 < d * 2 ^ roundShift n d := by
          rcases Nat.eq_zero_or_pos (d * 2 ^ roundShift n d) with h0 | hD
          · simp [h0] at lower
          · exact hD
        exact (Nat.le_div_iff_mul_le hD).mp lower
      have grow : d * 2 ^ 254 ≤ d * 2 ^ roundShift n d :=
        Nat.mul_le_mul_left _ (Nat.pow_le_pow_right (by decide) (by omega))
      rw [pow_succ 2 253] at grow
      omega
  rw [roundMag_eq]
  rcases Nat.lt_or_eq_of_le shift with below | last
  · omega
  · have kept : roundKept n d < 2 ^ 24 := nearestEven_lt (by rwa [last])
    omega

theorem roundMag_finite {n d : Nat} (hd : 0 < d) (h : n ≤ d * ((2 ^ 24 - 1) * 2 ^ 253)) :
    roundMag n d < 0x7F800000 := by
  apply roundMag_lt
  have : 0 < d * 2 ^ 253 := Nat.mul_pos hd (Nat.two_pow_pos _)
  have e : d * ((2 ^ 24 - 1) * 2 ^ 253) = (2 ^ 24 - 1) * (d * 2 ^ 253) := by ring
  omega

/-- A pattern comes back from its own value. -/
theorem roundMag_exact {p d : Nat} (hd : 0 < d) (hp : p < 0x7F800000) (neg : Bool) :
    roundMag (d * magUnits (withSign neg p)) d = p := by
  have largest := magUnits_le_of_isFinite (isFinite_withSign hp neg)
  have finite := roundMag_finite hd (Nat.mul_le_mul_left d largest)
  obtain ⟨nearest, -⟩ := roundMag_nearest hd finite (show p < 2 ^ 31 by omega) neg
  have zero : distance (d * magUnits (withSign neg p)) d (magUnits (withSign neg p)) = 0 := by
    simp [distance]
  rw [zero] at nearest
  refine magUnits_withSign_inj (by omega) (by omega) (a := neg) (b := neg) ?_
  have same : d * magUnits (withSign neg p) =
      d * magUnits (withSign neg (roundMag (d * magUnits (withSign neg p)) d)) := by
    generalize magUnits (withSign neg (roundMag (d * magUnits (withSign neg p)) d)) = v at nearest ⊢
    unfold distance at nearest
    omega
  exact (Nat.eq_of_mul_eq_mul_left hd same).symm

/-- A magnitude in units that some finite value has. -/
def Representable (v : Nat) : Prop := ∃ p, p < 0x7F800000 ∧ magUnits (withSign false p) = v

/-- An integer of 24 bits times a power of two is the value of a pattern. -/
theorem representable_mul_two_pow {a k : Nat} (ha : a ≤ 2 ^ 24) (hk : k ≤ 252) : Representable (a * 2 ^ k) := by
  induction k generalizing a with
  | zero => exact ⟨0 * 2 ^ 23 + a, by omega, magUnits_kept (.inl rfl) ha (by omega) false⟩
  | succ k ih =>
    rcases Nat.lt_or_ge a (2 ^ 23) with small | large
    · have := ih (a := a * 2) (by omega) (by omega)
      rwa [Nat.mul_assoc, ← pow_succ'] at this
    · exact ⟨(k + 1) * 2 ^ 23 + a, by omega, magUnits_kept (.inr large) ha (by omega) false⟩

/-- A representable exact result is the result of the rounding. -/
theorem roundUnits_exact {v d : Nat} (hd : 0 < d) (hv : Representable v) (neg : Bool) :
    isFinite (roundUnits neg (d * v) d) = true ∧ magUnits (roundUnits neg (d * v) d) = v := by
  obtain ⟨p, hp, rfl⟩ := hv
  rw [roundUnits, roundMag_exact hd hp]
  refine ⟨isFinite_withSign hp neg, ?_⟩
  have pattern := magUnits_pattern (withSign neg p) false
  rw [toNat_mod_withSign (by omega)] at pattern
  exact pattern.symm

theorem units_roundUnits_exact {v d : Nat} (hd : 0 < d) (hv : Representable v) (neg : Bool) :
    units (roundUnits neg (d * v) d) = if neg then -(v : Int) else v := by
  rw [units, signBit_roundUnits, (roundUnits_exact hd hv neg).2]

/-- The rounding with the sign of an exact result. -/
theorem roundUnits_int {z : Int} (hz : Representable z.natAbs) :
    isFinite (roundUnits (decide (z < 0)) z.natAbs 1) = true ∧
      units (roundUnits (decide (z < 0)) z.natAbs 1) = z := by
  have finite := (roundUnits_exact Nat.one_pos hz (decide (z < 0))).1
  have value := units_roundUnits_exact Nat.one_pos hz (decide (z < 0))
  rw [Nat.one_mul] at finite value
  refine ⟨finite, value.trans ?_⟩
  simp only [decide_eq_true_eq]
  omega

theorem natAbs_units (x : F) : (units x).natAbs = magUnits x := by
  unfold units
  split <;> simp

/-! ### Integers (R12) -/

/-- The unit of the integers, as the statements write it. -/
theorem oneUnits_eq : (oneUnits : Int) = 2 ^ 149 := by norm_num [oneUnits]

theorem oneUnits_pos : 0 < oneUnits := Nat.two_pow_pos _

/-- An integer up to `2^24` in magnitude is a value of `F`. -/
theorem i2f_exact {i : Int} (hi : i.natAbs ≤ 2 ^ 24) :
    isFinite (i2f i) = true ∧ units (i2f i) = i * 2 ^ 149 := by
  have magnitude : (i * oneUnits).natAbs = i.natAbs * oneUnits := by rw [Int.natAbs_mul, Int.natAbs_natCast]
  have sign : i * oneUnits < 0 ↔ i < 0 := by simp [mul_neg_iff, oneUnits_pos]
  have exact := roundUnits_int (z := i * oneUnits) (magnitude ▸ representable_mul_two_pow hi (by decide))
  simp only [magnitude, sign] at exact
  rwa [← oneUnits_eq]

/-- `f2i` of a value that is no NaN: truncated, then saturated (R13). -/
theorem toInt_f2i {x : F} (h : isNaN x = false) :
    (f2i x).toInt = max (-(2 ^ 31)) (min (2 ^ 31 - 1) (Int.tdiv (units x) (2 ^ 149))) := by
  have trunc : Int.tdiv (units x) (2 ^ 149) =
      if signBit x then -((magUnits x / oneUnits : Nat) : Int) else (magUnits x / oneUnits : Nat) := by
    rw [← oneUnits_eq, units]
    split
    · rw [Int.neg_tdiv, Int.ofNat_tdiv]
    · rw [Int.ofNat_tdiv]
  rw [trunc]
  simp only [f2i, h, Bool.false_eq_true, if_false]
  generalize magUnits x / oneUnits = t
  split <;> split
  · rw [show (0x80000000#32).toInt = -2 ^ 31 by decide]
    omega
  · rw [BitVec.toInt_ofInt_eq_self (by decide) (by omega) (by omega)]
    omega
  · rw [show (0x7FFFFFFF#32).toInt = 2 ^ 31 - 1 by decide]
    omega
  · rw [BitVec.toInt_ofNat', Int.bmod_eq_of_le_mul_two (by omega) (by omega)]
    omega

theorem f2i_nan {x : F} (h : isNaN x = true) : f2i x = 0#32 := by simp [f2i, h]

/-- Settles O55, by the sign and the two saturations. -/
theorem quantisationTruncatesAndSaturates : Obligations.QuantisationTruncatesAndSaturates := by
  intro x
  split
  · rw [f2i_nan ‹_›]
    rfl
  · exact toInt_f2i (Bool.eq_false_of_not_eq_true ‹_›)

/-- A value that is an integer of 32 bits quantises to it. -/
theorem toInt_f2i_of_units {x : F} {i : Int} (finite : isFinite x = true) (value : units x = i * 2 ^ 149)
    (lo : -2 ^ 31 ≤ i) (hi : i < 2 ^ 31) : (f2i x).toInt = i := by
  rw [toInt_f2i (isNaN_of_isFinite finite), value, Int.mul_tdiv_cancel _ (by positivity)]
  omega

theorem toInt_f2i_i2f {i : Int} (hi : i.natAbs ≤ 2 ^ 24) : (f2i (i2f i)).toInt = i :=
  toInt_f2i_of_units (i2f_exact hi).1 (i2f_exact hi).2 (by omega) (by omega)

/-- Settles O54: 24 bits hold the integer, so the rounding is exact and the truncation takes nothing off. -/
theorem smallIntegersAreExact : Obligations.SmallIntegersAreExact :=
  fun _ hi => ⟨(i2f_exact hi).1, (i2f_exact hi).2, toInt_f2i_i2f hi⟩

end Sys2Proof.Machine

/-! Comparisons, exact sums and products of binary32, and the mono downmix (R11, R15, R22). -/

namespace Sys2Proof.Machine

/-! ### Comparisons (R15, R16) -/

theorem fle_iff {a b : F} (ha : isNaN a = false) (hb : isNaN b = false) :
    fle a b = true ↔ units a ≤ units b := by
  simp [fle, ha, hb]

theorem units_sampleMin : units 0xC7000000#32 = -32768 * 2 ^ 149 := by decide +kernel

theorem units_sampleMax : units 0x46FFFE00#32 = 32767 * 2 ^ 149 := by decide +kernel

theorem oor_nan {x : F} (h : isNaN x = true) : oor x = true := by simp [oor, fle, h]

theorem oor_iff {x : F} (h : isNaN x = false) :
    oor x = true ↔ units x < -32768 * 2 ^ 149 ∨ 32767 * 2 ^ 149 < units x := by
  rw [oor, Bool.not_eq_true', Bool.and_eq_false_iff, ← Bool.not_eq_true, ← Bool.not_eq_true,
    fle_iff (by decide) h, fle_iff h (by decide), units_sampleMin, units_sampleMax, not_le, not_le]

/-- Settles O56, by the NaN and by the two comparisons of the other values. -/
theorem outOfRangeIsOutsideTheSampleRange : Obligations.OutOfRangeIsOutsideTheSampleRange := by
  intro x
  cases h : isNaN x with
  | true => simp [oor_nan h]
  | false => simpa using oor_iff h

/-! ### Exact sums and products (R11) -/

theorem isInf_of_isFinite {x : F} (h : isFinite x = true) : isInf x = false := by
  simp only [isFinite, bne_iff_ne] at h
  simp [isInf, h]

theorem isInf_iff (x : F) : isInf x = true ↔ x.toNat % 2 ^ 31 = 0x7F800000 := by
  simp only [isInf, expField, fracField, Bool.and_eq_true, beq_iff_eq]
  omega

theorem isFinite_of_number {x : F} (nan : isNaN x = false) (inf : isInf x = false) : isFinite x = true := by
  by_cases top : expField x = 255
  · by_cases frac : fracField x = 0
    · simp [isInf, top, frac] at inf
    · simp [isNaN, top, frac] at nan
  · simpa [isFinite] using top

/-- The sum of two finite values. -/
theorem addNumbers_finite (op : NumOp) (a b : F) {x y : F} (hx : isFinite x = true) (hy : isFinite y = true) :
    addNumbers op a b x y =
      if units x + units y = 0 then withSign (signBit x && signBit y) 0
      else roundUnits (decide (units x + units y < 0)) (units x + units y).natAbs 1 := by
  simp [addNumbers, isInf_of_isFinite hx, isInf_of_isFinite hy]

theorem fadd_finite {x y : F} (hx : isFinite x = true) (hy : isFinite y = true) :
    fadd x y = addNumbers .add x y x y := by
  simp [fadd, isNaN_of_isFinite hx, isNaN_of_isFinite hy]

theorem fsub_finite {x y : F} (hx : isFinite x = true) (hy : isFinite y = true) :
    fsub x y = addNumbers .sub x y x (negate y) := by
  simp [fsub, isNaN_of_isFinite hx, isNaN_of_isFinite hy]

/-- The product of two finite values. -/
theorem fmul_finite {x y : F} (hx : isFinite x = true) (hy : isFinite y = true) :
    fmul x y = roundUnits (signBit x != signBit y) (magUnits x * magUnits y) oneUnits := by
  simp [fmul, isNaN_of_isFinite hx, isNaN_of_isFinite hy, isInf_of_isFinite hx, isInf_of_isFinite hy]

theorem units_withSign_zero (neg : Bool) : units (withSign neg 0) = 0 := by cases neg <;> decide

/-- A representable sum is exact. -/
theorem fadd_exact {x y : F} (hx : isFinite x = true) (hy : isFinite y = true)
    (hz : Representable (units x + units y).natAbs) :
    isFinite (fadd x y) = true ∧ units (fadd x y) = units x + units y := by
  rw [fadd_finite hx hy, addNumbers_finite _ _ _ hx hy]
  split
  · exact ⟨isFinite_withSign (by decide) _, by rw [units_withSign_zero, ‹units x + units y = 0›]⟩
  · exact roundUnits_int hz

/-- Half of an integer up to `2^24` in magnitude is exact. -/
theorem fmul_half_exact {x : F} {i : Int} (finite : isFinite x = true) (value : units x = i * 2 ^ 149)
    (hi : i.natAbs ≤ 2 ^ 24) : isFinite (fmul x half) = true ∧ 2 * units (fmul x half) = i * 2 ^ 149 := by
  have magnitude : magUnits x = i.natAbs * 2 ^ 149 := by
    rw [← natAbs_units, value, Int.natAbs_mul]
    rfl
  have product : magUnits x * magUnits half = oneUnits * (i.natAbs * 2 ^ 148) := by
    rw [magnitude, show magUnits half = 2 ^ 148 by decide +kernel, oneUnits]
    ring
  have hv : Representable (i.natAbs * 2 ^ 148) := representable_mul_two_pow hi (by decide)
  rw [fmul_finite finite (by decide), product]
  refine ⟨(roundUnits_exact oneUnits_pos hv _).1, ?_⟩
  rw [units_roundUnits_exact oneUnits_pos hv, ← value, units, magnitude,
    show signBit half = false by decide, Bool.bne_false]
  split <;> (push_cast; ring)

theorem magUnits_one : magUnits one = oneUnits := by decide +kernel

theorem fmul_one_of_isFinite {x : F} (h : isFinite x = true) : fmul x one = x := by
  rw [fmul_finite h (by decide), magUnits_one, Nat.mul_comm, ← magUnits_pattern x false, roundUnits,
    roundMag_exact oneUnits_pos ((isFinite_iff x).mp h), show signBit one = false by decide, Bool.bne_false,
    withSign_self]

theorem fmul_one_of_isInf {x : F} (h : isInf x = true) : fmul x one = x := by
  have pattern := (isInf_iff x).mp h
  have number : isNaN x = false := by rw [← withSign_self x, pattern]; exact isNaN_withSign le_rfl _
  have zero : isZero x = false := by rw [isZero, pattern]; rfl
  have product : fmul x one = infinity (signBit x) := by
    simp [fmul, number, h, zero, show isNaN one = false by decide, show isZero one = false by decide,
      show signBit one = false by decide]
  rw [product, infinity, ← pattern, withSign_self]

/-- Every value that is no NaN times 1.0 is itself. -/
theorem fmul_one {x : F} (h : isNaN x = false) : fmul x one = x := by
  cases inf : isInf x with
  | true => exact fmul_one_of_isInf inf
  | false => exact fmul_one_of_isFinite (isFinite_of_number h inf)

/-! ### The mono downmix (R22) -/

theorem natAbs_toInt_sample (x : Sample) : x.toInt.natAbs ≤ 2 ^ 15 := by
  have lo := BitVec.le_toInt x
  have hi := BitVec.toInt_lt (x := x)
  omega

/-- The sum of two integers up to `2^23` in magnitude is exact. -/
theorem fadd_i2f_exact {i j : Int} (hi : i.natAbs ≤ 2 ^ 23) (hj : j.natAbs ≤ 2 ^ 23) :
    isFinite (fadd (i2f i) (i2f j)) = true ∧ units (fadd (i2f i) (i2f j)) = (i + j) * 2 ^ 149 := by
  obtain ⟨iFinite, iValue⟩ := i2f_exact (i := i) (by omega)
  obtain ⟨jFinite, jValue⟩ := i2f_exact (i := j) (by omega)
  have sum : units (i2f i) + units (i2f j) = (i + j) * 2 ^ 149 := by rw [iValue, jValue, ← Int.add_mul]
  rw [← sum]
  refine fadd_exact iFinite jFinite ?_
  rw [sum, Int.natAbs_mul]
  exact representable_mul_two_pow (by omega) (by decide)

/-- Settles O57: the sum of two samples is exact, and so is its half. -/
theorem monoIsTheExactMean : Obligations.MonoIsTheExactMean := by
  intro s l r num
  have hl := natAbs_toInt_sample l
  have hr := natAbs_toInt_sample r
  obtain ⟨finite, value⟩ := fadd_i2f_exact (i := l.toInt) (j := r.toInt) (by omega) (by omega)
  rw [State.mono, State.fmul_default num, State.fadd_default num, State.i2f_default num, State.i2f_default num]
  exact fmul_half_exact finite value (by omega)

end Sys2Proof.Machine

/-! The laws of every numerics record and of its sine (R18, R21). -/

namespace Sys2Proof.Machine

/-! ### Zeros -/

theorem isZero_iff (x : F) : isZero x = true ↔ ∃ neg, x = withSign neg 0 := by
  constructor
  · intro h
    have pattern : x.toNat % 2 ^ 31 = 0 := by simpa [isZero] using h
    exact ⟨signBit x, by rw [← pattern, withSign_self]⟩
  · rintro ⟨neg, rfl⟩
    exact isZero_withSign neg

theorem magUnits_of_isZero {x : F} (h : isZero x = true) : magUnits x = 0 := by
  obtain ⟨neg, rfl⟩ := (isZero_iff x).mp h
  cases neg <;> decide

theorem units_of_isZero {x : F} (h : isZero x = true) : units x = 0 := by
  simp [units, magUnits_of_isZero h]

theorem isFinite_of_isZero {x : F} (h : isZero x = true) : isFinite x = true := by
  obtain ⟨neg, rfl⟩ := (isZero_iff x).mp h
  exact isFinite_withSign (by decide) neg

theorem isFinite_negate {x : F} (h : isFinite x = true) : isFinite (negate x) = true :=
  isFinite_withSign ((isFinite_iff x).mp h) _

theorem isZero_negate {x : F} (h : isZero x = true) : isZero (negate x) = true := by
  have pattern : x.toNat % 2 ^ 31 = 0 := by simpa [isZero] using h
  rw [negate, pattern]
  exact isZero_withSign _

theorem ne_one_of_isZero {x : F} (h : isZero x = true) : x ≠ one := by
  rintro rfl
  exact absurd h (by decide)

theorem i2f_zero : i2f 0 = 0#32 := by decide

theorem isZero_addNumbers (op : NumOp) (a b : F) {x y : F} (hx : isZero x = true) (hy : isZero y = true) :
    isZero (addNumbers op a b x y) = true := by
  rw [addNumbers_finite op a b (isFinite_of_isZero hx) (isFinite_of_isZero hy), units_of_isZero hx,
    units_of_isZero hy]
  exact isZero_withSign _

/-- A product with a factor of magnitude 0. -/
theorem isZero_fmul {x y : F} (hx : isFinite x = true) (hy : isFinite y = true)
    (h : isZero x = true ∨ isZero y = true) : isZero (fmul x y) = true := by
  have product : magUnits x * magUnits y = 0 := by
    rcases h with h | h <;> simp [magUnits_of_isZero h]
  rw [fmul_finite hx hy, product, roundUnits, roundMag_zero]
  exact isZero_withSign _

theorem f2i_of_isZero {x : F} (h : isZero x = true) : f2i x = 0#32 := by
  obtain ⟨neg, rfl⟩ := (isZero_iff x).mp h
  cases neg <;> decide

theorem oor_of_isZero {x : F} (h : isZero x = true) : oor x = false := by
  obtain ⟨neg, rfl⟩ := (isZero_iff x).mp h
  cases neg <;> decide +kernel

/-! ### The laws of every record (R21) -/

section
variable (n : NumChoice)

theorem numI2f_short {i : Int} (lo : -65536 ≤ i) (hi : i < 65536) : numI2f n i = i2f i := by
  cases n with
  | binary32 => rfl
  | other id => simp [numI2f, isShort, lo, hi]

theorem numI2f_zero : numI2f n 0 = 0#32 := (numI2f_short n (by decide) (by decide)).trans i2f_zero

/-- A 17-bit integer is one of the values whose operations the laws fix. -/
theorem isShortValue_i2f {i : Int} (lo : -65536 ≤ i) (hi : i < 65536) : isShortValue (i2f i) = true := by
  simp [isShortValue, toInt_f2i_i2f (show i.natAbs ≤ 2 ^ 24 by omega), isShort, lo, hi]

theorem isZero_numAdd {x y : F} (hx : isZero x = true) (hy : isZero y = true) :
    isZero (numAdd n x y) = true := by
  cases n with
  | binary32 =>
    rw [numAdd_binary32, fadd_finite (isFinite_of_isZero hx) (isFinite_of_isZero hy)]
    exact isZero_addNumbers _ _ _ hx hy
  | other id => simp [numAdd, hx, hy]

theorem isZero_numSub {x y : F} (hx : isZero x = true) (hy : isZero y = true) :
    isZero (numSub n x y) = true := by
  cases n with
  | binary32 =>
    rw [numSub_binary32, fsub_finite (isFinite_of_isZero hx) (isFinite_of_isZero hy)]
    exact isZero_addNumbers _ _ _ hx (isZero_negate hy)
  | other id => simp [numSub, hx, hy]

theorem isZero_numMul_left {x y : F} (hx : isZero x = true) (hy : isFinite y = true) :
    isZero (numMul n x y) = true := by
  cases n with
  | binary32 => exact isZero_fmul (isFinite_of_isZero hx) hy (.inl hx)
  | other id =>
    by_cases h1 : y = one
    · simpa [numMul, h1] using hx
    · simp [numMul, h1, hx, hy]

theorem isZero_numMul_right {x y : F} (hx : isFinite x = true) (hy : isZero y = true) :
    isZero (numMul n x y) = true := by
  cases n with
  | binary32 => exact isZero_fmul hx (isFinite_of_isZero hy) (.inr hy)
  | other id => simp [numMul, ne_one_of_isZero hy, hx, hy]

theorem numF2i_of_isZero {x : F} (h : isZero x = true) : numF2i n x = 0#32 := by
  cases n with
  | binary32 => exact f2i_of_isZero h
  | other id => simp [numF2i, h, f2i_of_isZero h]

theorem numOor_of_isZero {x : F} (h : isZero x = true) : numOor n x = false := by
  cases n with
  | binary32 => exact oor_of_isZero h
  | other id => simp [numOor, h, oor_of_isZero h]

/-- Half of a 17-bit integer. -/
theorem numMul_half {i : Int} (lo : -65536 ≤ i) (hi : i < 65536) :
    2 * units (numMul n (i2f i) half) = i * 2 ^ 149 := by
  obtain ⟨finite, value⟩ := i2f_exact (i := i) (by omega)
  cases n with
  | binary32 => exact (fmul_half_exact finite value (by omega)).2
  | other id =>
    cases zero : isZero (i2f i) with
    | true =>
      have product : isZero (numMul (.other id) (i2f i) half) = true := isZero_numMul_left _ zero (by decide)
      rw [units_of_isZero product, ← value, units_of_isZero zero]
      rfl
    | false =>
      have short : numMul (.other id) (i2f i) half = fmul (i2f i) half := by
        simp [numMul, show half ≠ one by decide, zero, show isZero half = false by decide,
          isShortValue_i2f lo hi]
      rw [short]
      exact (fmul_half_exact finite value (by omega)).2

theorem numMul_one {x : F} (h : n = .binary32 → isNaN x = false) : numMul n x one = x := by
  cases n with
  | binary32 => exact fmul_one (h rfl)
  | other id => simp [numMul]

theorem numF2i_i2f {i : Int} (lo : -65536 ≤ i) (hi : i < 65536) : (numF2i n (i2f i)).toInt = i := by
  have back := toInt_f2i_i2f (i := i) (by omega)
  cases n with
  | binary32 => exact back
  | other id => simp [numF2i, isShortValue_i2f lo hi, back]

theorem numGe_i2f {i j : Int} (hi : -65536 ≤ i ∧ i < 65536) (hj : -65536 ≤ j ∧ j < 65536) :
    numGe n (i2f i) (i2f j) = fge (i2f i) (i2f j) := by
  cases n with
  | binary32 => rfl
  | other id => simp [numGe, isShortValue_i2f hi.1 hi.2, isShortValue_i2f hj.1 hj.2]

end

/-- Settles O58, law by law: those of binary32 by its exact results, those of another record because they
are laid over it. -/
theorem numericsRecordObeysItsLaws : Obligations.NumericsRecordObeysItsLaws := by
  intro n
  have zero : isZero (numI2f n 0) = true := by rw [numI2f_zero]; rfl
  refine ⟨fun x hx => ⟨isZero_numMul_left n zero hx, isZero_numMul_right n hx zero⟩,
    fun x y => isZero_numAdd n, fun x => numF2i_of_isZero n, fun i lo hi => ?_, fun x => numMul_one n,
    fun i lo hi => ?_⟩
  · rw [numI2f_short n lo hi]
    exact ⟨(i2f_exact (by omega)).2, numMul_half n lo hi⟩
  · rw [numI2f_short n (by omega) (by omega)]
    exact numF2i_i2f n (by omega) (by omega)

/-! ### The laws of the sine (R18) -/

theorem i2f_one : i2f 1 = one := by decide +kernel

/-- A value whose pattern without the sign is at most the one of 1.0. -/
theorem magUnits_le_one {mag : Nat} (h : mag ≤ 0x3F800000) (neg : Bool) :
    magUnits (withSign neg mag) ≤ oneUnits := by
  rw [← magUnits_one]
  apply magUnits_le
  rw [toNat_mod_withSign (by omega)]
  exact h

/-- A number of magnitude at most 1 lies between −1.0 and 1.0. -/
theorem fge_of_magUnits_le_one {x : F} (nan : isNaN x = false) (h : magUnits x ≤ oneUnits) :
    fge x (i2f (-1)) = true ∧ fge (i2f 1) x = true := by
  have value := natAbs_units x
  have unit := oneUnits_eq
  rw [fge, fge, fle_iff (isNaN_i2f _) nan, fle_iff nan (isNaN_i2f _), (i2f_exact (by decide)).2,
    (i2f_exact (by decide)).2, ← unit]
  omega

/-- What the sine of the default record answers for a finite operand. -/
theorem sine_of_isFinite (c : SinChoice) {x : F} (h : isFinite x = true) :
    isFinite (sine c x) = true ∧ magUnits (sine c x) ≤ oneUnits := by
  obtain ⟨raw, hraw⟩ := sine_lawful c
  rw [hraw]
  rcases lawfulSine_cases raw x with ⟨hx, -⟩ | ⟨-, zero⟩ | ⟨-, neg, mag, hmag, value⟩
  · rw [h] at hx
    cases hx
  · rw [zero]
    exact ⟨rfl, magUnits_le_one (mag := 0) (by decide) false⟩
  · rw [value]
    exact ⟨isFinite_withSign (by omega) neg, magUnits_le_one hmag neg⟩

theorem numSin_zero (n : NumChoice) (c : SinChoice) : numSin n c 0#32 = 0#32 := by
  cases n with
  | binary32 =>
    obtain ⟨raw, hraw⟩ := sine_lawful c
    rw [numSin_binary32, hraw]
    rfl
  | other id => rfl

/-- Whatever the choice, the sine of another record is some value with the laws of R18 laid over it. -/
theorem numSin_other (id : Nat) (c : SinChoice) (x : F) : ∃ y, numSin (.other id) c x =
    if isFinite x then
      (if x = 0#32 then 0#32
        else if numGe (.other id) y (numI2f (.other id) (-1)) && numGe (.other id) one y then y else 0#32)
    else asNaN y := by
  cases c with
  | correctlyRounded => exact ⟨Config.freeRoundedSine id x, rfl⟩
  | other k => exact ⟨Config.freeSine k x, rfl⟩

theorem isNaN_numSin (n : NumChoice) (c : SinChoice) {x : F} (h : isFinite x = false) :
    isNaN (numSin n c x) = true := by
  cases n with
  | binary32 =>
    obtain ⟨raw, hraw⟩ := sine_lawful c
    simp [hraw, lawfulSine, h]
  | other id =>
    obtain ⟨y, hy⟩ := numSin_other id c x
    simp [hy, h]

/-- The sine of another record is +0.0 or passes the record's own comparison with both ends. -/
theorem numSin_other_cases (id : Nat) (c : SinChoice) {x : F} (h : isFinite x = true) :
    numSin (.other id) c x = 0#32 ∨
      numGe (.other id) (numSin (.other id) c x) (numI2f (.other id) (-1)) = true ∧
        numGe (.other id) one (numSin (.other id) c x) = true := by
  obtain ⟨y, hy⟩ := numSin_other id c x
  rw [hy, if_pos h]
  split
  · exact .inl rfl
  · split
    · rename_i range
      exact .inr (Bool.and_eq_true_iff.mp range)
    · exact .inl rfl

theorem numSin_range (n : NumChoice) (c : SinChoice) {x : F} (h : isFinite x = true) :
    numGe n (numSin n c x) (numI2f n (-1)) = true ∧ numGe n (numI2f n 1) (numSin n c x) = true := by
  rw [numI2f_short n (i := -1) (by decide) (by decide), numI2f_short n (i := 1) (by decide) (by decide)]
  cases n with
  | binary32 =>
    obtain ⟨finite, range⟩ := sine_of_isFinite c h
    exact fge_of_magUnits_le_one (isNaN_of_isFinite finite) range
  | other id =>
    rcases numSin_other_cases id c h with zero | range
    · rw [zero, ← i2f_zero, numGe_i2f _ (by decide) (by decide), numGe_i2f _ (by decide) (by decide)]
      decide +kernel
    · rwa [numI2f_short _ (by decide) (by decide), ← i2f_one] at range

/-- Settles O59: the default sine is clamped to magnitude 1, the sine of another record to its own range. -/
theorem sineObeysItsLaws : Obligations.SineObeysItsLaws :=
  fun n c _ => ⟨numSin_zero n c, isNaN_numSin n c, numSin_range n c⟩

end Sys2Proof.Machine

/-! What an operation can answer, and that no step changes the parameter record (R60). -/

namespace Sys2Proof.Machine

/-! ### The parameter record (R60) -/

theorem State.linesWriteAdv_cfg (s : State) (ds : List (Fin 10)) (v : F) : (s.linesWriteAdv ds v).cfg = s.cfg := by
  rw [State.linesWriteAdv_others]

theorem State.resetNow_cfg (s : State) : s.resetNow.cfg = s.cfg := rfl

/-- A stage keeps the record when its body does. -/
theorem runStage_cfg {s t : State} {bit flag : Nat} {ds : List (Fin 10)} {next : UopCode} {body : State → State}
    (keeps : (body s).cfg = s.cfg) (h : s.runStage bit ds flag next body = .next t) : t.cfg = s.cfg := by
  obtain ⟨rfl, -⟩ := State.runStage_next h
  cases on : s.enabled bit with
  | true => rw [State.stage_on on, State.setSidx_cfg, State.check_cfg, keeps]
  | false => rw [State.stage_off on, State.setSidx_cfg]

theorem State.chorusBody_cfg (s : State) : s.chorusBody.cfg = s.cfg :=
  State.linesWriteAdv_cfg (s.addBoth s.chorusOut) [6, 7, 8] s.dry

theorem State.reverbBody_cfg (s : State) : s.reverbBody.cfg = s.cfg :=
  State.linesWriteAdv_cfg (s.addBoth _) [1, 2, 3, 4, 5] _

theorem State.writeTxn_cfg (s : State) (a : Addr) (d : Data) : (s.writeTxn a d).cfg = s.cfg := by
  unfold State.writeTxn
  cases hostTarget s.cfg a with
  | cmd => split_ifs <;> rfl
  | nframes => dsimp only; split_ifs <;> rfl
  | blk k => dsimp only; split_ifs <;> rfl
  | status => exact State.ackStatus_cfg s d
  | _ => rfl

theorem State.readTxn_cfg (s : State) (a : Addr) : (s.readTxn a).cfg = s.cfg := by
  unfold State.readTxn
  cases hostTarget s.cfg a with
  | blk k => dsimp only; split_ifs <;> rfl
  | _ => rfl

/-! ### What an operation can answer -/

theorem execLoad_next {s t : State} (h : execLoad s = .next t) : t = s.loadOp := by
  unfold execLoad at h
  split at h
  · exact (Host.Outcome.next.inj h).symm
  · cases h

theorem execStore_next {s t : State} (h : execStore s = .next t) : t = s.storeOp := by
  unfold execStore at h
  split at h
  · exact (Host.Outcome.next.inj h).symm
  · cases h

/-- An operation that is no micro-operation is one transaction (R117). -/
theorem exec_transaction {i : Instr} (h : isMicroOp i = false) (s : State) :
    (∃ a d, exec i s = .next (s.writeTxn a d)) ∨ ∃ a, exec i s = .next (s.readTxn a) := by
  cases i with
  | rd | rdf | rds => exact .inr ⟨_, rfl⟩
  | load | vol | echo | reverb | chorus | vibrato | tremolo | stereo | store | norm => cases h
  | _ => exact .inl ⟨_, _, rfl⟩

theorem exec_cfg {i : Instr} {s t : State} (h : exec i s = .next t) : t.cfg = s.cfg := by
  cases micro : isMicroOp i with
  | false =>
    rcases exec_transaction micro s with ⟨a, d, e⟩ | ⟨a, e⟩
    · obtain rfl := Host.Outcome.next.inj (e.symm.trans h)
      exact State.writeTxn_cfg s a d
    · obtain rfl := Host.Outcome.next.inj (e.symm.trans h)
      exact State.readTxn_cfg s a
  | true =>
    cases i with
    | load => rw [execLoad_next h, State.loadOp_cfg]
    | vol =>
      obtain rfl := Host.Outcome.next.inj h
      simp [State.volOp]
    | echo => exact runStage_cfg rfl h
    | reverb => exact runStage_cfg s.reverbBody_cfg h
    | chorus => exact runStage_cfg s.chorusBody_cfg h
    | vibrato => exact runStage_cfg rfl h
    | tremolo => exact runStage_cfg rfl h
    | stereo => exact runStage_cfg rfl h
    | store => rw [execStore_next h, State.storeOp_cfg]
    | norm =>
      obtain ⟨-, b, -, rfl⟩ := execNorm_next h
      rw [State.finishBlock_cfg]
    | _ => cases micro

/-- Settles O12, turn by turn: a transaction, a reset, an idle engine, a micro-operation. -/
theorem noStepChangesTheParameterRecord : Obligations.NoStepChangesTheParameterRecord := by
  intro s t h
  rcases step_next h with ⟨_, _, -, run⟩ | ⟨_, -, rfl⟩ | ⟨_, -, -, rfl⟩ | ⟨_, _, -, -, -, run⟩
  · rw [exec_cfg run, State.withEvents_cfg]
  · rw [State.resetNow_cfg, State.withEvents_cfg]
  · rw [State.withEvents_cfg]
  · rw [exec_cfg run, State.withEvents_cfg]

end Sys2Proof.Machine

/-! Silence (spec/95_test_vectors.md S6): finite factors with the default record, zeros through the machine's
operations, and the ten micro-operations on a silent state. -/

namespace Sys2Proof.Machine

/-! ### Finite results of the default record (R11) -/

/-- A finite value times one of magnitude at most 1. -/
theorem isFinite_fmul {x y : F} (hx : isFinite x = true) (hy : isFinite y = true)
    (h : magUnits x ≤ oneUnits ∨ magUnits y ≤ oneUnits) : isFinite (fmul x y) = true := by
  rw [fmul_finite hx hy]
  refine isFinite_withSign (roundMag_finite oneUnits_pos ?_) _
  rcases h with small | small
  · exact Nat.mul_le_mul small (magUnits_le_of_isFinite hy)
  · rw [Nat.mul_comm oneUnits]
    exact Nat.mul_le_mul (magUnits_le_of_isFinite hx) small

/-- A finite value plus one of magnitude at most 1: the sum stays below the midpoint over the largest value. -/
theorem isFinite_addNumbers (op : NumOp) (a b : F) {x y : F} (hx : isFinite x = true) (hy : isFinite y = true)
    (small : magUnits x ≤ oneUnits) : isFinite (addNumbers op a b x y) = true := by
  have large := magUnits_le_of_isFinite hy
  have sum : (units x + units y).natAbs ≤ magUnits x + magUnits y := by
    rw [← natAbs_units, ← natAbs_units]
    exact Int.natAbs_add_le _ _
  rw [addNumbers_finite op a b hx hy]
  split
  · exact isFinite_withSign (by decide) _
  · refine isFinite_withSign (roundMag_lt ?_) _
    rw [oneUnits] at small
    omega

theorem isFinite_fadd {x y : F} (hx : isFinite x = true) (hy : isFinite y = true)
    (small : magUnits x ≤ oneUnits) : isFinite (fadd x y) = true := by
  rw [fadd_finite hx hy]
  exact isFinite_addNumbers _ _ _ hx hy small

theorem isFinite_fsub {x y : F} (hx : isFinite x = true) (hy : isFinite y = true)
    (small : magUnits x ≤ oneUnits) : isFinite (fsub x y) = true := by
  rw [fsub_finite hx hy]
  exact isFinite_addNumbers _ _ _ hx (isFinite_negate hy) small

/-- A modulator: a bias plus a depth times a sine (R180, R190, R195). -/
theorem isFinite_modulator {bias depth x : F} (c : SinChoice) (hb : isFinite bias = true)
    (small : magUnits bias ≤ oneUnits) (hd : isFinite depth = true) (hx : isFinite x = true) :
    isFinite (fadd bias (fmul depth (sine c x))) = true := by
  obtain ⟨finite, range⟩ := sine_of_isFinite c hx
  exact isFinite_fadd hb (isFinite_fmul hd finite (.inr range)) small

/-- The constants of R17 that the factors are made of are at most 1.0. -/
theorem magUnits_factors : magUnits gRv4 ≤ oneUnits ∧ magUnits gRv5 ≤ oneUnits ∧ magUnits chBias ≤ oneUnits ∧
    magUnits trmBias ≤ oneUnits := by decide +kernel

/-- With the default record, finite parameters and phases make the factors finite. -/
theorem finiteFactors_default {s : State} (num : s.cfg.num = .binary32) (damp : isFinite s.params.rvDamp = true)
    (depth : isFinite s.params.chDepth = true) (phases : ∀ p : Fin 5, isFinite (s.phase p) = true) :
    s.FiniteFactors := by
  obtain ⟨rv4, rv5, ch, trm⟩ := magUnits_factors
  have one1 : magUnits one ≤ oneUnits := magUnits_one.le
  have damped : isFinite (fsub one s.params.rvDamp) = true := isFinite_fsub (by decide) damp one1
  simp only [State.FiniteFactors, State.fmul_default num, State.fadd_default num, State.fsub_default num,
    State.sin_default num]
  exact ⟨isFinite_fmul (by decide) damped (.inl rv4), isFinite_fmul (by decide) damped (.inl rv5),
    fun p _ => isFinite_modulator _ (by decide) ch depth (phases p),
    isFinite_modulator _ (by decide) one1 (by decide) (phases 3),
    isFinite_modulator _ (by decide) trm (by decide) (phases 4)⟩

/-! ### Zeros through the machine's operations -/

section
variable (s : State)

theorem State.isZero_fadd {a b : F} (ha : isZero a = true) (hb : isZero b = true) : isZero (s.fadd a b) = true :=
  isZero_numAdd s.cfg.num ha hb

theorem State.isZero_fsub {a b : F} (ha : isZero a = true) (hb : isZero b = true) : isZero (s.fsub a b) = true :=
  isZero_numSub s.cfg.num ha hb

theorem State.isZero_fmul_left {a b : F} (ha : isZero a = true) (hb : isFinite b = true) :
    isZero (s.fmul a b) = true := isZero_numMul_left s.cfg.num ha hb

theorem State.isZero_fmul_right {a b : F} (ha : isFinite a = true) (hb : isZero b = true) :
    isZero (s.fmul a b) = true := isZero_numMul_right s.cfg.num ha hb

theorem State.isZero_i2f_zero : isZero (s.i2f 0) = true := by
  rw [State.i2f, numI2f_zero]
  rfl

theorem State.f2i_of_isZero {x : F} (h : isZero x = true) : s.f2i x = 0#32 := numF2i_of_isZero s.cfg.num h

theorem State.oor_of_isZero {x : F} (h : isZero x = true) : s.oor x = false := numOor_of_isZero s.cfg.num h

theorem State.isZero_mono_zero : isZero (s.mono 0#16 0#16) = true :=
  s.isZero_fmul_left (s.isZero_fadd s.isZero_i2f_zero s.isZero_i2f_zero) (by decide)

end

/-! ### Updates that keep silence -/

namespace State.Silent

variable {s : State} (h : s.Silent)
include h

theorem setSidx (c : UopCode) : (s.setSidx c).Silent := { h with }

theorem phaseAdv (p : Fin 5) (f : F) : (s.phaseAdv p f).Silent := { h with }

theorem setAcc {l r : F} (hl : isZero l = true) (hr : isZero r = true) : (s.setAcc l r).Silent :=
  { h with acc := ⟨hl, hr⟩ }

theorem addBoth {t : F} (ht : isZero t = true) : (s.addBoth t).Silent :=
  h.setAcc (s.isZero_fadd h.acc.1 ht) (s.isZero_fadd h.acc.2 ht)

theorem scaleBoth {m : F} (hm : isFinite m = true) : (s.scaleBoth m).Silent :=
  h.setAcc (s.isZero_fmul_left h.acc.1 hm) (s.isZero_fmul_left h.acc.2 hm)

theorem lineWriteAdv (d : Fin 10) {v : F} (hv : isZero v = true) : (s.lineWriteAdv d v).Silent :=
  { h with
    lines := by
      intro e k
      rw [State.lineEntry_lineWriteAdv]
      split
      · exact hv
      · exact h.lines e k }

theorem lineRead (d : Fin 10) (k : Nat) : isZero (s.lineRead d k) = true := h.lines d _

/-- The check of a silent state raises no flag (R210). -/
theorem check_eq (n : Nat) : s.check n = s := by
  rw [State.check, s.oor_of_isZero h.acc.1, s.oor_of_isZero h.acc.2]
  rfl

end State.Silent

theorem State.Silent.linesWriteAdv {s : State} (h : s.Silent) (ds : List (Fin 10)) {v : F} (hv : isZero v = true) :
    (s.linesWriteAdv ds v).Silent := by
  induction ds generalizing s with
  | nil => exact h
  | cons d ds ih => exact ih (h.lineWriteAdv d hv)

/-- The state after is silent and no flag has been raised. -/
def StaysSilent (s t : State) : Prop := t.Silent ∧ t.diag = s.diag

/-- A stage keeps silence when its body does. -/
theorem runStage_staysSilent {s t : State} {bit flag : Nat} {ds : List (Fin 10)} {next : UopCode}
    {body : State → State} (h : s.Silent) (keeps : StaysSilent s (body s))
    (run : s.runStage bit ds flag next body = .next t) : StaysSilent s t := by
  obtain ⟨rfl, -⟩ := State.runStage_next run
  cases on : s.enabled bit with
  | true =>
    rw [State.stage_on on, keeps.1.check_eq]
    exact ⟨keeps.1.setSidx next, keeps.2⟩
  | false =>
    rw [State.stage_off on]
    exact ⟨h.setSidx next, rfl⟩

/-! ### The micro-operations on silence -/

section
variable {s : State} (h : s.Silent)
include h

theorem loadOp_staysSilent : StaysSilent s s.loadOp := by
  have frame := h.block s.fidx.toNat
  refine ⟨{ h with input := ?_, dry := ?_ }, rfl⟩
  · rw [State.loadOp_inL, State.loadOp_inR, frame]
    decide
  · rw [State.loadOp_dry, frame]
    exact s.isZero_mono_zero

theorem volOp_staysSilent : StaysSilent s s.volOp := by
  obtain ⟨left, right⟩ := h.input
  obtain ⟨gvol, -⟩ := h.finite
  have scaled : (s.setAcc (s.fmul (s.i2f s.inL.toInt) s.params.gvol)
      (s.fmul (s.i2f s.inR.toInt) s.params.gvol)).Silent := by
    rw [left, right]
    exact h.setAcc (s.isZero_fmul_left s.isZero_i2f_zero gvol) (s.isZero_fmul_left s.isZero_i2f_zero gvol)
  rw [State.volOp, scaled.check_eq]
  exact ⟨scaled.setSidx 2#4, rfl⟩

theorem echoBody_staysSilent : StaysSilent s s.echoBody :=
  ⟨(h.addBoth (s.isZero_fmul_right (by decide) (h.lineRead 0 _))).lineWriteAdv 0 h.dry, rfl⟩

theorem isZero_reverbSum (g4 : isFinite (s.fmul gRv4 (s.fsub one s.params.rvDamp)) = true)
    (g5 : isFinite (s.fmul gRv5 (s.fsub one s.params.rvDamp)) = true) : isZero s.reverbSum = true := by
  have tap {g : F} (hg : isFinite g = true) (d : Fin 10) : isZero (s.fmul g (s.lineRead d (s.lineSize d))) = true :=
    s.isZero_fmul_right hg (h.lineRead d _)
  exact s.isZero_fadd (s.isZero_fadd (s.isZero_fadd (s.isZero_fadd (tap (by decide) 1) (tap (by decide) 2))
    (tap (by decide) 3)) (tap g4 4)) (tap g5 5)

theorem reverbBody_staysSilent (sum : isZero s.reverbSum = true) : StaysSilent s s.reverbBody := by
  obtain ⟨-, rvFb, -⟩ := h.finite
  have fed : isZero (s.fadd s.dry (s.fmul s.params.rvFb s.reverbSum)) = true :=
    s.isZero_fadd h.dry (s.isZero_fmul_right rvFb sum)
  exact ⟨(h.addBoth (s.isZero_fmul_right (by decide) sum)).linesWriteAdv _ fed, by simp [State.reverbBody]⟩

theorem isZero_chorusVoice {d : Fin 10} {p : Fin 5} {weight : F} (hw : isFinite weight = true)
    (modulator : isFinite (s.fadd chBias (s.fmul s.params.chDepth (s.sin (s.phase p)))) = true) :
    isZero (s.chorusVoice d p weight) = true :=
  s.isZero_fmul_left (s.isZero_fmul_right hw (h.lineRead d _)) modulator

theorem chorusBody_staysSilent (out : isZero s.chorusOut = true) : StaysSilent s s.chorusBody :=
  ⟨((((h.addBoth out).linesWriteAdv [6, 7, 8] h.dry).phaseAdv 0 _).phaseAdv 1 _).phaseAdv 2 _,
    by simp [State.chorusBody]⟩

theorem stereoBody_staysSilent : StaysSilent s s.stereoBody := by
  have tap : isZero (s.fmul gSt (s.lineRead 9 (s.lineSize 9))) = true :=
    s.isZero_fmul_right (by decide) (h.lineRead 9 _)
  exact ⟨(h.setAcc (s.isZero_fadd h.acc.1 tap) (s.isZero_fsub h.acc.2 tap)).lineWriteAdv 9 h.dry, rfl⟩

theorem storeOp_staysSilent : StaysSilent s s.storeOp := by
  have left := s.f2i_of_isZero h.acc.1
  have right := s.f2i_of_isZero h.acc.2
  refine ⟨{ h with work := ?_, peak := ?_ }, rfl⟩
  · intro k w hw
    rw [State.workFrame?, State.storeOp_wbuf, Memory.find?_put, left, right] at hw
    split at hw
    · exact (Option.some.inj hw).symm
    · exact h.work k w hw
  · rw [State.storeOp_peakacc, left, right, h.peak]
    decide

/-- Without a peak the block is not rescaled, and a silent frame leaves silent. -/
theorem outFrame_zero : s.outFrame (0#32, 0#32) = 0#32 := by
  have flat : s.rescales = false := by simp [State.rescales, h.peak]
  have sample : s.outSample 0#32 = 0#16 := by
    rw [State.outSample, flat]
    rfl
  rw [State.outFrame, sample]
  decide

theorem finishBlock_staysSilent {n : Nat} {b : Memory Data} (hb : s.outBlock? n = some b) :
    StaysSilent s (s.finishBlock b) := by
  obtain ⟨below, above⟩ := State.outBlock?_spec hb
  refine ⟨{ h with block := ?_ }, rfl⟩
  intro k
  rw [State.frame, State.finishBlock_blk]
  rcases Nat.lt_or_ge k n with hk | hk
  · obtain ⟨w, hw, out⟩ := below k hk
    rw [out, h.work k w hw, outFrame_zero h]
  · rw [above k hk, h.block k]

end

/-- Every micro-operation keeps a silent state silent, when the factors of the stages are finite. -/
theorem exec_staysSilent {i : Instr} {s t : State} (micro : isMicroOp i = true) (h : s.Silent)
    (factors : s.FiniteFactors) (run : exec i s = .next t) : StaysSilent s t := by
  obtain ⟨g4, g5, voices, vibrato, tremolo⟩ := factors
  cases i with
  | load =>
    rw [execLoad_next run]
    exact loadOp_staysSilent h
  | vol =>
    obtain rfl := Host.Outcome.next.inj run
    exact volOp_staysSilent h
  | echo => exact runStage_staysSilent h (echoBody_staysSilent h) run
  | reverb => exact runStage_staysSilent h (reverbBody_staysSilent h (isZero_reverbSum h g4 g5)) run
  | chorus =>
    have voice0 := isZero_chorusVoice h (d := 6) (weight := gCh1) (by decide) (voices 0 (by decide))
    have voice1 := isZero_chorusVoice h (d := 7) (weight := gCh2) (by decide) (voices 1 (by decide))
    have voice2 := isZero_chorusVoice h (d := 8) (weight := gCh3) (by decide) (voices 2 (by decide))
    have out : isZero s.chorusOut = true :=
      s.isZero_fmul_right (by decide) (s.isZero_fadd (s.isZero_fadd voice0 voice1) voice2)
    exact runStage_staysSilent h (chorusBody_staysSilent h out) run
  | vibrato => exact runStage_staysSilent h ⟨(h.scaleBoth vibrato).phaseAdv 3 fLfo, rfl⟩ run
  | tremolo => exact runStage_staysSilent h ⟨(h.scaleBoth tremolo).phaseAdv 4 fLfo, rfl⟩ run
  | stereo => exact runStage_staysSilent h (stereoBody_staysSilent h) run
  | store =>
    rw [execStore_next run]
    exact storeOp_staysSilent h
  | norm =>
    obtain ⟨-, b, hb, rfl⟩ := execNorm_next run
    exact finishBlock_staysSilent h hb
  | _ => cases micro

/-- Settles O18: a zero times a finite factor is a zero in every record, and with the default record finite phases
make the factors finite. -/
theorem silenceStaysSilence : Obligations.SilenceStaysSilence := by
  intro i s t micro h factors run
  obtain ⟨-, -, damp, depth⟩ := h.finite
  rcases factors with finite | ⟨num, phases⟩
  · exact exec_staysSilent micro h finite run
  · exact exec_staysSilent micro h (finiteFactors_default num damp depth phases) run

end Sys2Proof.Machine

/-! What a transaction and a micro-operation do, said once: the rows of a write, the answer of a read, the frame
of the operations on the accumulators. -/

namespace Sys2Proof.Machine

/-! ### Transactions (R231, R232) -/

/-- What an accepted write of `d` at `a` does before it is answered (R231). -/
inductive WriteEffect (s : State) (a : Addr) (d : Data) : State → Prop where
  | nothing : WriteEffect s a d s
  | start (idle : s.busy = false) : WriteEffect s a d s.startBlock
  | status : WriteEffect s a d (s.ackStatus d)
  | ie : WriteEffect s a d { s with doneIe := d.getLsbD 0 }
  | nframes (le : d.toNat ≤ s.cfg.blockMax) : WriteEffect s a d { s with nframes := d.extractLsb' 0 11 }
  | toggle : WriteEffect s a d { s with toggle := d.extractLsb' 0 6 }
  | diag : WriteEffect s a d (s.clearDiag d)
  | params (p : ParamRegs) : WriteEffect s a d { s with params := p }
  | frame (k : Nat) (target : hostTarget s.cfg a = .blk k) : WriteEffect s a d (s.setFrame k d)

/-- All that a write can do: it is refused, or it takes effect and is answered. -/
theorem State.writeTxn_cases (s : State) (a : Addr) (d : Data) :
    s.writeTxn a d = s.refuse ∨ ∃ u, WriteEffect s a d u ∧ s.writeTxn a d = u.accept 0#32 := by
  unfold State.writeTxn
  cases target : hostTarget s.cfg a with
  | cmd =>
    dsimp only
    split_ifs with one busy zero
    · exact .inl rfl
    · exact .inr ⟨_, .start (by simpa using busy), rfl⟩
    · exact .inr ⟨_, .nothing, rfl⟩
    · exact .inl rfl
  | status => exact .inr ⟨_, .status, rfl⟩
  | ie => exact .inr ⟨_, .ie, rfl⟩
  | nframes =>
    dsimp only
    split_ifs with le
    · exact .inr ⟨_, .nframes le, rfl⟩
    · exact .inl rfl
  | toggle => exact .inr ⟨_, .toggle, rfl⟩
  | diag => exact .inr ⟨_, .diag, rfl⟩
  | peak | scale => exact .inr ⟨_, .nothing, rfl⟩
  | param | limEn => exact .inr ⟨_, .params _, rfl⟩
  | blk k =>
    dsimp only
    split_ifs
    · exact .inl rfl
    · exact .inr ⟨_, .frame k target, rfl⟩
  | unmapped => exact .inl rfl

/-- All that a read can do: it is refused or answered. -/
theorem State.readTxn_cases (s : State) (a : Addr) :
    s.readTxn a = s.refuse ∨ ∃ v, s.readTxn a = s.accept v := by
  unfold State.readTxn
  cases hostTarget s.cfg a with
  | blk k =>
    dsimp only
    split_ifs
    · exact .inl rfl
    · exact .inr ⟨_, rfl⟩
  | unmapped => exact .inl rfl
  | _ => exact .inr ⟨_, rfl⟩

/-- A transaction writes a frame only as `WR` at its address or as `LDF` (R117). -/
theorem exec_transaction_frame {i : Instr} (h : isMicroOp i = false) (s : State) :
    (∃ a, exec i s = .next (s.readTxn a)) ∨
    ∃ a d, exec i s = .next (s.writeTxn a d) ∧ ∀ k, hostTarget s.cfg a = .blk k →
      i = .wr a d ∨ ∃ j l r, i = .ldf j l r ∧ a = frameAddr j := by
  cases i with
  | rd | rdf | rds => exact .inl ⟨_, rfl⟩
  | load | vol | echo | reverb | chorus | vibrato | tremolo | stereo | store | norm => cases h
  | wr a d => exact .inr ⟨a, d, rfl, fun _ _ => .inl rfl⟩
  | ldf j l r => exact .inr ⟨_, _, rfl, fun _ _ => .inr ⟨j, l, r, rfl, rfl⟩⟩
  | _ => exact .inr ⟨_, _, rfl, nofun⟩

/-! ### One equation per target that the named forms use -/

section
variable {s : State} {a : Addr}

theorem State.writeTxn_param {p : FloatParam} (h : hostTarget s.cfg a = .param p) (d : Data) :
    s.writeTxn a d = { s with params := s.params.put d p }.accept 0#32 := by
  rw [State.writeTxn, h]

theorem State.readTxn_param {p : FloatParam} (h : hostTarget s.cfg a = .param p) :
    s.readTxn a = s.accept (s.params.get p) := by
  rw [State.readTxn, h]

theorem State.writeTxn_nframes (h : hostTarget s.cfg a = .nframes) (d : Data) :
    s.writeTxn a d = if d.toNat ≤ s.cfg.blockMax then
      { s with nframes := d.extractLsb' 0 11 }.accept 0#32 else s.refuse := by
  rw [State.writeTxn, h]

theorem State.writeTxn_blk {k : Nat} (h : hostTarget s.cfg a = .blk k) (d : Data) :
    s.writeTxn a d = if s.busy then s.refuse else (s.setFrame k d).accept 0#32 := by
  rw [State.writeTxn, h]

theorem State.readTxn_blk {k : Nat} (h : hostTarget s.cfg a = .blk k) :
    s.readTxn a = if s.busy then s.refuse else s.accept (s.frame k) := by
  rw [State.readTxn, h]

theorem State.writeTxn_unmapped (h : hostTarget s.cfg a = .unmapped) (d : Data) :
    s.writeTxn a d = s.refuse := by
  rw [State.writeTxn, h]

theorem State.readTxn_unmapped (h : hostTarget s.cfg a = .unmapped) : s.readTxn a = s.refuse := by
  rw [State.readTxn, h]

end

/-! ### Micro-operations (R150 to R220) -/

/-- The accumulators stand beside the lines. -/
theorem State.linesWriteAdv_setAcc (s : State) (ds : List (Fin 10)) (v l r : F) :
    (s.setAcc l r).linesWriteAdv ds v = (s.linesWriteAdv ds v).setAcc l r := by
  induction ds generalizing s with
  | nil => rfl
  | cons d ds ih => exact ih (s.lineWriteAdv d v)

/-- What `VOL` and the six stages have in common: they change the accumulators, the phases, the lines they own and
`DIAG`, and move on to the next code (R132, R210, R236). -/
structure SoundStep (i : Instr) (s t : State) : Prop where
  frame : t = { s with
    accL := t.accL, accR := t.accR, ph := t.ph, dl := t.dl, cur := t.cur, diag := t.diag, sidx := t.sidx }
  lines : ∃ ds v, (ds = [] ∨ ds = ownedLines i) ∧
    t.dl = (s.linesWriteAdv ds v).dl ∧ t.cur = (s.linesWriteAdv ds v).cur
  flags : t.diag &&& s.diag = s.diag
  next : ∀ c, encodeWord i = .uop c → t.sidx = c + 1#4

/-- A check sets a flag and clears none (R210). -/
theorem State.check_keepsFlags (s : State) (n : Nat) : (s.check n).diag &&& s.diag = s.diag := by
  rw [State.check_diag]
  split
  · ext k hk
    simp only [BitVec.getElem_and, BitVec.getElem_or]
    cases s.diag[k] <;> simp
  · exact BitVec.and_self

/-- The next code, told by the code of the operation. -/
theorem code_succ {i : Instr} {c d : UopCode} (code : encodeWord i = .uop (d - 1#4)) (h : encodeWord i = .uop c) :
    d = c + 1#4 := by
  obtain rfl := Encoded.uop.inj (code.symm.trans h)
  rw [BitVec.sub_add_cancel]

/-- What a body may do, then its check, then the next code. -/
theorem soundStep_of_check {i : Instr} {s : State} {ds : List (Fin 10)} {v l r : F} {ph : Vector F 5} {n : Nat}
    {c : UopCode} (owned : ds = [] ∨ ds = ownedLines i) (code : encodeWord i = .uop (c - 1#4)) :
    SoundStep i s (({ s.linesWriteAdv ds v with accL := l, accR := r, ph := ph }.check n).setSidx c) := by
  rw [State.linesWriteAdv_others s ds v]
  refine ⟨?_, ⟨ds, v, owned, ?_⟩, State.check_keepsFlags _ n, fun _ h => code_succ code h⟩
  · rw [State.check_eq]
    rfl
  · rw [State.setSidx_dl, State.setSidx_cur, State.check_dl, State.check_cur]
    exact ⟨rfl, rfl⟩

/-- A stage that is on does what its body may do; one that is off only moves on (R237). -/
theorem soundStep_of_runStage {i : Instr} {s t : State} {bit flag : Nat} {c : UopCode} {body : State → State}
    (code : encodeWord i = .uop (c - 1#4))
    (effect : ∃ v l r ph, body s = { s.linesWriteAdv (ownedLines i) v with accL := l, accR := r, ph := ph })
    (h : s.runStage bit (ownedLines i) flag c body = .next t) : SoundStep i s t := by
  obtain ⟨rfl, -⟩ := State.runStage_next h
  cases on : s.enabled bit with
  | true =>
    obtain ⟨v, l, r, ph, e⟩ := effect
    rw [State.stage_on on, e]
    exact soundStep_of_check (.inr rfl) code
  | false =>
    rw [State.stage_off on]
    exact ⟨rfl, ⟨[], 0#32, .inl rfl, rfl, rfl⟩, BitVec.and_self, fun _ h => code_succ code h⟩

/-- What a micro-operation does. -/
inductive MicroEffect (s : State) : Instr → State → Prop where
  | load : MicroEffect s .load s.loadOp
  | sound {i : Instr} {t : State} (notStore : i ≠ .store) (notNorm : i ≠ .norm) (step : SoundStep i s t) :
      MicroEffect s i t
  | store : MicroEffect s .store s.storeOp
  | norm {b : Memory Data} (le : s.nf.toNat ≤ s.cfg.blockMax) (block : s.outBlock? s.nf.toNat = some b) :
      MicroEffect s .norm (s.finishBlock b)

/-- All that a micro-operation can do. -/
theorem exec_microOp {i : Instr} {s t : State} (micro : isMicroOp i = true) (h : exec i s = .next t) :
    MicroEffect s i t := by
  cases i with
  | load =>
    rw [execLoad_next h]
    exact .load
  | vol =>
    obtain rfl := Host.Outcome.next.inj h
    exact .sound nofun nofun (soundStep_of_check (ds := []) (v := 0#32) (.inl rfl) rfl)
  | echo => exact .sound nofun nofun (soundStep_of_runStage rfl ⟨_, _, _, _, rfl⟩ h)
  | reverb => exact .sound nofun nofun (soundStep_of_runStage rfl ⟨_, _, _, _, State.linesWriteAdv_setAcc ..⟩ h)
  | chorus => exact .sound nofun nofun (soundStep_of_runStage rfl ⟨_, _, _, _, rfl⟩ h)
  | vibrato => exact .sound nofun nofun (soundStep_of_runStage rfl ⟨0#32, _, _, _, rfl⟩ h)
  | tremolo => exact .sound nofun nofun (soundStep_of_runStage rfl ⟨0#32, _, _, _, rfl⟩ h)
  | stereo => exact .sound nofun nofun (soundStep_of_runStage rfl ⟨_, _, _, _, rfl⟩ h)
  | store =>
    rw [execStore_next h]
    exact .store
  | norm =>
    obtain ⟨le, b, block, rfl⟩ := execNorm_next h
    exact .norm le block
  | _ => cases micro

/-- The code that names an operation is the code it is encoded as (R104). -/
theorem encodeWord_of_decodeUop {c : UopCode} {i : Instr} (h : decodeUop c = some i) : encodeWord i = .uop c := by
  revert i
  revert c
  decide

end Sys2Proof.Machine

/-! The invariant (R35 to R56): it holds at reset, and every step keeps it. -/

namespace Sys2Proof.Machine

/-! ### The reset state (R59, R280) -/

theorem State.cursor_resetOf (c : Cfg) (d : Fin 10) : (State.resetOf c).cursor d = 0 := by
  revert d
  exact (by decide : ∀ d : Fin 10, (#v[0, 0, 0, 0, 0, 0, 0, 0, 0, 0] : Vector Nat 10)[d.val] = 0)

theorem State.dl_resetOf (c : Cfg) (d : Fin 10) : (State.resetOf c).dl[d.val] = [] := by
  revert d
  exact (by decide : ∀ d : Fin 10, (#v[[], [], [], [], [], [], [], [], [], []] : Vector (Memory F) 10)[d.val] = [])

theorem State.inv_resetOf {c : Cfg} (h : c.wf) : (State.resetOf c).Inv where
  cfgWf := h
  cursors := by
    obtain ⟨-, size, -⟩ := h
    intro d
    rw [State.cursor_resetOf]
    exact size d
  lines := by
    intro d
    rw [State.dl_resetOf]
    exact Memory.wf_nil ..
  blkWf := Memory.wf_nil ..
  wbufWf := Memory.wf_nil ..
  nframesLe := Nat.zero_le _
  nfLe := Nat.zero_le _
  fidxLe := Nat.zero_le _
  sidxLe := Nat.zero_le _
  position := nofun
  busyNotDone := nofun
  written := nofun
  peakaccLe := Nat.zero_le _
  peakLe := Nat.zero_le _
  scaleNumber := fun _ => (by decide : isNaN 0x3F800000#32 = false)

theorem cfg_default_wf : Cfg.default.wf :=
  ⟨by decide, by decide, by decide, by decide, Cfg_default_phases⟩

/-- Settles O9: the default parameters meet the constraints of R6. -/
theorem invariantHoldsAtReset : Obligations.InvariantHoldsAtReset := State.inv_resetOf cfg_default_wf

/-- Settles O8: the registers by their values, the spaces because nothing is listed in them. -/
theorem resetStateHasTheValuesOfTheTable : Obligations.ResetStateHasTheValuesOfTheTable := by
  have empty (d : Fin 10) (k : Nat) : State.reset.lineEntry d k = 0#32 := by
    rw [State.lineEntry, State.reset, State.dl_resetOf]
    rfl
  have turn (x : BitVec 32) : inTurn (Config.intoTurn x) = true := by
    obtain ⟨low, high⟩ := fge_intoTurn x
    rw [inTurn, high, Bool.not_false, Bool.and_true]
    exact low
  exact ⟨rfl, rfl, rfl, rfl, rfl, rfl, rfl, rfl, rfl, rfl, rfl, rfl, rfl, rfl, rfl, rfl,
    State.cursor_resetOf Cfg.default, turn _, turn _, rfl, rfl, rfl, empty, fun _ => rfl, rfl, rfl⟩

/-! ### Transactions keep the invariant -/

namespace State.Inv

variable {s : State} (inv : s.Inv)
include inv

theorem withEvents (es : List Event) : (s.withEvents es).Inv := { inv with }

theorem accept (v : Data) : (s.accept v).Inv := { inv with }

theorem refuse : s.refuse.Inv := { inv with }

theorem resetNow : s.resetNow.Inv := { State.inv_resetOf inv.cfgWf with }

/-- START begins at the first frame, or at NORM when there is none (R233). -/
theorem startBlock : s.startBlock.Inv :=
  { inv with
    nfLe := inv.nframesLe
    fidxLe := Nat.zero_le _
    sidxLe := by
      rw [State.startBlock_sidx]
      split_ifs <;> decide
    position := by
      intro _
      rw [State.startBlock_sidx, State.startBlock_fidx, State.startBlock_nf]
      split_ifs with none
      · exact .inr ⟨rfl, none.symm⟩
      · refine .inl ⟨by decide, Nat.pos_of_ne_zero fun zero => none ?_⟩
        exact BitVec.eq_of_toNat_eq zero
    busyNotDone := fun _ => rfl
    written := fun _ k below => absurd below (Nat.not_lt_zero k)
    peakaccLe := Nat.zero_le _ }

theorem ackStatus (d : Data) : (s.ackStatus d).Inv := by
  rw [State.ackStatus]
  split
  · exact { inv with busyNotDone := fun _ => rfl }
  · exact inv

theorem writeEffect {a : Addr} {d : Data} {u : State} (effect : WriteEffect s a d u) : u.Inv := by
  cases effect with
  | start => exact inv.startBlock
  | status => exact inv.ackStatus d
  | nframes le =>
    refine { inv with nframesLe := le_trans ?_ le }
    show (d.extractLsb' 0 11).toNat ≤ d.toNat
    rw [BitVec.extractLsb'_toNat]
    exact Nat.mod_le _ _
  | frame k target =>
    obtain ⟨-, inside⟩ := hostTarget_eq_blk target
    exact { inv with blkWf := Memory.wf_set d inv.blkWf inside }
  | nothing | ie | toggle | diag | params => exact { inv with }

theorem writeTxn (a : Addr) (d : Data) : (s.writeTxn a d).Inv := by
  rcases s.writeTxn_cases a d with e | ⟨u, effect, e⟩
  · rw [e]
    exact inv.refuse
  · rw [e]
    exact (inv.writeEffect effect).accept _

theorem readTxn (a : Addr) : (s.readTxn a).Inv := by
  rcases s.readTxn_cases a with e | ⟨v, e⟩
  · rw [e]
    exact inv.refuse
  · rw [e]
    exact inv.accept v

end State.Inv

theorem isMicroOp_ite {p : Prop} [Decidable p] {i j : Instr} (hi : isMicroOp i = false) (hj : isMicroOp j = false) :
    isMicroOp (if p then i else j) = false := by
  split
  · exact hi
  · exact hj

/-- A transaction word is read as a transaction (R106). -/
theorem isMicroOp_decodeTxn (w : TxnWord) : isMicroOp (decodeTxn w) = false := by
  unfold decodeTxn decodeWrite decodeRead
  repeat' apply isMicroOp_ite
  all_goals rfl

theorem exec_transaction_inv {i : Instr} {s t : State} (txn : isMicroOp i = false) (inv : s.Inv)
    (h : exec i s = .next t) : t.Inv := by
  rcases exec_transaction txn s with ⟨a, d, e⟩ | ⟨a, e⟩
  · obtain rfl := Host.Outcome.next.inj (e.symm.trans h)
    exact inv.writeTxn a d
  · obtain rfl := Host.Outcome.next.inj (e.symm.trans h)
    exact inv.readTxn a

/-! ### Magnitudes (R19) and the factor of the block (R20, R221) -/

theorem toNat_absInt_le (i : BitVec 32) : (absInt i).toNat ≤ 2 ^ 31 := by
  have lo := i.le_toInt
  have hi := i.toInt_lt
  rw [absInt, BitVec.toNat_ofNat]
  omega

theorem toNat_umax (a b : BitVec 32) : (umax a b).toNat = max a.toNat b.toNat := by
  rw [umax]
  split_ifs with le
  · exact (max_eq_right (BitVec.le_def.mp le)).symm
  · exact (max_eq_left (Nat.le_of_not_le fun h => le (BitVec.le_def.mpr h))).symm

/-- A finite value other than zero over a number is no NaN. -/
theorem isNaN_fdiv {a b : F} (finite : isFinite a = true) (zero : isZero a = false) (hb : isNaN b = false) :
    isNaN (fdiv a b) = false := by
  rw [fdiv]
  simp only [isNaN_of_isFinite finite, isInf_of_isFinite finite, hb, zero, Bool.or_self, Bool.false_eq_true, if_false]
  split_ifs
  · exact isNaN_withSign (by decide) _
  · exact isNaN_withSign (by decide) _
  · exact isNaN_roundUnits ..

theorem isNaN_blockScale {s : State} (num : s.cfg.num = .binary32) : isNaN s.blockScale = false := by
  rw [State.blockScale]
  split
  · rw [State.fdiv_default num, State.u2f_default num]
    exact isNaN_fdiv (by decide) (by decide) (isNaN_u2f _)
  · decide

/-! ### Micro-operations keep the invariant -/

theorem frameWithin_mono {p q : BitVec 32} {w : WorkFrame} (le : p.toNat ≤ q.toNat) (h : frameWithin p w) :
    frameWithin q w := ⟨h.1.trans le, h.2.trans le⟩

/-- STORE's peak bounds the old peak and the frame it stores (R215). -/
theorem State.storeOp_peak_bounds (s : State) : s.peakacc.toNat ≤ s.storeOp.peakacc.toNat ∧
    frameWithin s.storeOp.peakacc (s.f2i s.accL, s.f2i s.accR) := by
  simp only [frameWithin, State.storeOp_peakacc, toNat_umax]
  omega

theorem State.workFrame?_storeOp (s : State) (k : Nat) : s.storeOp.workFrame? k =
    if k = s.fidx.toNat then some (s.f2i s.accL, s.f2i s.accR) else s.workFrame? k :=
  Memory.find?_put ..

namespace State.Inv

variable {s : State} (inv : s.Inv)
include inv

theorem lineWriteAdv (d : Fin 10) (v : F) : (s.lineWriteAdv d v).Inv :=
  { inv with
    cursors := by
      intro e
      rw [State.cursor_lineWriteAdv, State.lineSize_lineWriteAdv]
      split_ifs with h
      · rw [h]
        exact Nat.mod_lt _ (Nat.zero_lt_of_lt (inv.cursors d))
      · exact inv.cursors e
    lines := by
      intro e
      rw [State.lineSize_lineWriteAdv]
      simp only [State.lineWriteAdv, Vector.getElem_set]
      split_ifs with h
      · rw [← Fin.ext h]
        exact Memory.wf_set v (inv.lines d) (inv.cursors d)
      · exact inv.lines e }

/-- The code of a position inside a frame is not NORM's. -/
theorem insideFrame (busy : s.busy = true) (code : s.sidx ≠ 9#4) :
    s.sidx.toNat ≤ 8 ∧ s.fidx.toNat < s.nf.toNat := by
  rcases inv.position busy with inside | ⟨last, -⟩
  · exact inside
  · exact absurd last code

theorem loadOp (busy : s.busy = true) (code : s.sidx = 0#4) : s.loadOp.Inv :=
  { inv with
    sidxLe := (by decide : (1#4).toNat ≤ 9)
    position := fun _ => .inl ⟨(by decide : (1#4).toNat ≤ 8), (inv.insideFrame busy (by rw [code]; decide)).2⟩ }

theorem storeOp (busy : s.busy = true) (code : s.sidx = 8#4) : s.storeOp.Inv := by
  obtain ⟨-, inside⟩ := inv.insideFrame busy (by rw [code]; decide)
  have size := inv.nfLe
  obtain ⟨-, -, -, blockMax, -⟩ := inv.cfgWf
  obtain ⟨grows, within⟩ := s.storeOp_peak_bounds
  have next : (s.fidx + 1#11).toNat = s.fidx.toNat + 1 := by
    rw [BitVec.toNat_add]
    exact Nat.mod_eq_of_lt (by simp only [BitVec.toNat_ofNat]; omega)
  exact
    { inv with
      wbufWf := Memory.wf_put inv.wbufWf (lt_of_lt_of_le inside size) nofun
      fidxLe := by
        rw [State.storeOp_fidx, State.storeOp_nf, next]
        exact inside
      sidxLe := by
        rw [State.storeOp_sidx]
        split_ifs <;> decide
      position := by
        intro _
        rw [State.storeOp_sidx, State.storeOp_fidx, State.storeOp_nf, next]
        split_ifs with last
        · exact .inr ⟨rfl, last⟩
        · have : s.fidx.toNat + 1 ≠ s.nf.toNat := fun e => last (BitVec.eq_of_toNat_eq (next.trans e))
          exact .inl ⟨by decide, by omega⟩
      written := by
        intro _ k below
        rw [State.storeOp_fidx, next] at below
        rw [State.workFrame?_storeOp]
        split_ifs with here
        · exact ⟨_, rfl, within⟩
        · obtain ⟨w, entry, old⟩ := inv.written busy k (by omega)
          exact ⟨w, entry, frameWithin_mono grows old⟩
      peakaccLe := by
        rw [State.storeOp_peakacc, toNat_umax, toNat_umax]
        exact max_le (max_le inv.peakaccLe (toNat_absInt_le _)) (toNat_absInt_le _) }

theorem finishBlock {b : Memory Data} (block : s.outBlock? s.nf.toNat = some b) : (s.finishBlock b).Inv :=
  { inv with
    blkWf := State.outBlock?_wf block inv.blkWf inv.nfLe
    position := nofun
    busyNotDone := nofun
    written := nofun
    peakLe := inv.peakaccLe
    scaleNumber := isNaN_blockScale }

end State.Inv

theorem State.Inv.linesWriteAdv {s : State} (inv : s.Inv) (ds : List (Fin 10)) (v : F) :
    (s.linesWriteAdv ds v).Inv := by
  induction ds generalizing s with
  | nil => exact inv
  | cons d ds ih => exact ih (inv.lineWriteAdv d v)

theorem State.Inv.soundStep {i : Instr} {s t : State} (inv : s.Inv) (busy : s.busy = true)
    (code : encodeWord i = .uop s.sidx) (norm : s.sidx ≠ 9#4) (store : s.sidx ≠ 8#4)
    (h : SoundStep i s t) : t.Inv := by
  obtain ⟨frame, ⟨ds, v, -, dl, cur⟩, -, next⟩ := h
  have written := inv.linesWriteAdv ds v
  have size (d : Fin 10) : (s.linesWriteAdv ds v).lineSize d = s.lineSize d :=
    State.lineSize_congr (State.linesWriteAdv_cfg ..) d
  obtain ⟨low, inside⟩ := inv.insideFrame busy norm
  have sidx : t.sidx.toNat ≤ 8 := by
    rw [next _ code]
    bv_omega
  have cursors : ∀ d, t.cursor d < s.lineSize d := by
    intro d
    rw [State.cursor_congr cur, ← size]
    exact written.cursors d
  have lines : ∀ d : Fin 10, Memory.wf (some 0#32) (s.lineSize d) t.dl[d.val] = true := by
    intro d
    rw [dl, ← size]
    exact written.lines d
  rw [frame]
  exact { inv with
    cursors := cursors
    lines := lines
    sidxLe := sidx.trans (by decide)
    position := fun _ => .inl ⟨sidx, inside⟩ }

theorem exec_microOp_inv {i : Instr} {s t : State} (inv : s.Inv) (busy : s.busy = true)
    (named : decodeUop s.sidx = some i) (h : exec i s = .next t) : t.Inv := by
  have code := encodeWord_of_decodeUop named
  have micro : isMicroOp i = true := by rw [isMicroOp, code]
  cases exec_microOp micro h with
  | load => exact inv.loadOp busy (Encoded.uop.inj code).symm
  | sound notStore notNorm sound =>
    refine inv.soundStep busy code (fun nine => notNorm ?_) (fun eight => notStore ?_) sound
    · rw [nine] at named
      exact (Option.some.inj named).symm
    · rw [eight] at named
      exact (Option.some.inj named).symm
  | store => exact inv.storeOp busy (Encoded.uop.inj code).symm
  | norm le block => exact inv.finishBlock block

/-- Settles O10, turn by turn: a transaction, a reset, an idle engine, a micro-operation. -/
theorem everyStepKeepsTheInvariant : Obligations.EveryStepKeepsTheInvariant := by
  intro s t inv h
  rcases step_next h with
    ⟨w, rest, -, run⟩ | ⟨rest, -, rfl⟩ | ⟨rest, -, -, rfl⟩ | ⟨rest, i, -, busy, named, run⟩
  · exact exec_transaction_inv (isMicroOp_decodeTxn w) (inv.withEvents rest) run
  · exact (inv.withEvents rest).resetNow
  · exact inv.withEvents rest
  · exact exec_microOp_inv (inv.withEvents rest) busy named run

end Sys2Proof.Machine

/-! What the host sees: the named forms as full next states, the frame of a transaction, the wire `irq`. -/

namespace Sys2Proof.Machine

/-! ### The named forms (R234) -/

theorem exec_setn {s : State} {d : Data} : exec (.setn d) s = .next (if d.toNat ≤ s.cfg.blockMax then
    { s with nframes := d.extractLsb' 0 11 }.accept 0#32 else s.refuse) :=
  congrArg Host.Outcome.next (State.writeTxn_nframes (a := 0x003#12) rfl d)

/-- Settles O23: SETN by its bound, the others by their row of R231. -/
theorem controlRegisterFormsComplete : Obligations.ControlRegisterFormsComplete := by
  intro s d
  refine ⟨rfl, rfl, fun le => ?_, fun lt => ?_, rfl, rfl⟩
  · rw [exec_setn, if_pos le]
    rfl
  · rw [exec_setn, if_neg (Nat.not_le_of_lt lt)]
    rfl

/-- Settles O24: nine forms write a parameter register, the tenth `LIM_EN`. -/
theorem parameterFormsComplete : Obligations.ParameterFormsComplete := by
  intro s d
  have put {a : Addr} (p : FloatParam) (h : hostTarget s.cfg a = .param p) :
      Host.Outcome.next (s.writeTxn a d) = (.next { s with
        params := s.params.put d p, answer := some ⟨false, 0#32⟩ } : Host.Outcome State Fault Refusal) :=
    congrArg _ (State.writeTxn_param h d)
  exact ⟨put .gvol rfl, put .rvLevel rfl, put .rvFb rfl, put .rvDamp rfl, put .chLevel rfl, put .chDepth rfl,
    put .chSpeed rfl, put .stWidth rfl, put .limThresh rfl, rfl⟩

/-- Settles O25: the address of the form names the entry, and the idle engine leaves the block open. -/
theorem frameAndStatusFormsComplete : Obligations.FrameAndStatusFormsComplete := by
  intro s k l r
  refine ⟨fun idle inside => ?_, rfl⟩
  have target : hostTarget s.cfg (frameAddr k) = .blk k.toNat := hostTarget_frameAddr inside
  constructor
  · show Host.Outcome.next (s.writeTxn (frameAddr k) (packFrame l r)) = _
    rw [State.writeTxn_blk target, if_neg (Bool.eq_false_iff.mp idle)]
    rfl
  · show Host.Outcome.next (s.readTxn (frameAddr k)) = _
    rw [State.readTxn_blk target, if_neg (Bool.eq_false_iff.mp idle)]
    rfl

/-- A frame is closed to the host while the engine is busy and when it does not exist (R54). -/
theorem frame_refused {s : State} {k : BitVec 10} (h : s.busy = true ∨ s.cfg.blockMax ≤ k.toNat) :
    (∀ d, s.writeTxn (frameAddr k) d = s.refuse) ∧ s.readTxn (frameAddr k) = s.refuse := by
  rcases Nat.lt_or_ge k.toNat s.cfg.blockMax with inside | past
  · have busy : s.busy = true := h.resolve_right (Nat.not_le_of_lt inside)
    have target := hostTarget_frameAddr inside
    constructor
    · intro d
      rw [State.writeTxn_blk target, if_pos busy]
    · rw [State.readTxn_blk target, if_pos busy]
  · have target := hostTarget_frameAddr_past past
    exact ⟨State.writeTxn_unmapped target, State.readTxn_unmapped target⟩

/-- Settles O26: a closed frame is refused to both forms. -/
theorem blockMemoryIsClosedWhileBusy : Obligations.BlockMemoryIsClosedWhileBusy := by
  intro s k l r closed
  obtain ⟨write, read⟩ := frame_refused closed
  exact ⟨congrArg _ (write (packFrame l r)), congrArg _ read⟩

/-! ### Parameter registers (R46) -/

theorem ParamRegs.get_put (r : ParamRegs) (v : F) (p : FloatParam) : (r.put v p).get p = v := by
  cases p <;> rfl

/-- The addresses of the nine registers that hold a value of `F`. -/
theorem hostTarget_param (c : Cfg) {a : Addr} (lo : 0x010 ≤ a.toNat) (hi : a.toNat ≤ 0x018) :
    ∃ p, hostTarget c a = .param p := by
  obtain ⟨n, small, rfl⟩ : ∃ n < 2 ^ 12, a = BitVec.ofNat 12 n := ⟨a.toNat, a.isLt, by simp⟩
  rw [BitVec.toNat_ofNat, Nat.mod_eq_of_lt small] at lo hi
  interval_cases n
  all_goals exact ⟨_, rfl⟩

/-- Settles O30: the address names the same register in both transactions, and the register holds what was put. -/
theorem parametersReadBackTheBitsWritten : Obligations.ParametersReadBackTheBitsWritten := by
  intro s t a d lo hi write
  obtain ⟨p, target⟩ := hostTarget_param s.cfg lo hi
  have wrote : s.writeTxn a d = t := Host.Outcome.next.inj write
  have params : t.params = s.params.put d p := by
    rw [← wrote, State.writeTxn_param target]
    rfl
  have target' : hostTarget t.cfg a = .param p := by
    rw [← wrote, State.writeTxn_cfg]
    exact target
  have read : t.readTxn a = t.accept d := by
    rw [State.readTxn_param target', params, ParamRegs.get_put]
  exact congrArg Host.Outcome.next read

/-! ### The memories (R54, R74) -/

/-- A write changes no line and no working frame, and no frame but the one its address names. -/
theorem WriteEffect.memories {s u : State} {a : Addr} {d : Data} (effect : WriteEffect s a d u) :
    u.dl = s.dl ∧ u.wbuf = s.wbuf ∧ ∀ k, hostTarget s.cfg a ≠ .blk k → u.frame k = s.frame k := by
  cases effect with
  | status =>
    exact ⟨State.ackStatus_dl s d, State.ackStatus_wbuf s d, fun k _ =>
      State.frame_congr (State.ackStatus_blk s d) k⟩
  | frame j target =>
    refine ⟨rfl, rfl, fun k other => Memory.get_set_other _ _ _ fun same => other ?_⟩
    rw [target, same]
  | _ => exact ⟨rfl, rfl, fun _ _ => rfl⟩

theorem State.writeTxn_memories (s : State) (a : Addr) (d : Data) : (s.writeTxn a d).dl = s.dl ∧
    (s.writeTxn a d).wbuf = s.wbuf ∧
    ∀ k, hostTarget s.cfg a ≠ .blk k → (s.writeTxn a d).frame k = s.frame k := by
  rcases s.writeTxn_cases a d with e | ⟨u, effect, e⟩
  · rw [e]
    exact ⟨rfl, rfl, fun _ _ => rfl⟩
  · rw [e]
    exact effect.memories

theorem State.readTxn_memories (s : State) (a : Addr) : (s.readTxn a).dl = s.dl ∧
    (s.readTxn a).wbuf = s.wbuf ∧ (s.readTxn a).blk = s.blk := by
  rcases s.readTxn_cases a with e | ⟨v, e⟩
  · rw [e]
    exact ⟨rfl, rfl, rfl⟩
  · rw [e]
    exact ⟨rfl, rfl, rfl⟩

/-- Settles O29: only a `WR` or an `LDF` has an address that names a frame. -/
theorem transactionsStoreOnlyTheNamedFrame : Obligations.TransactionsStoreOnlyTheNamedFrame := by
  intro i s t txn run
  rcases exec_transaction_frame txn s with ⟨a, e⟩ | ⟨a, d, e, named⟩
  · obtain rfl := Host.Outcome.next.inj (e.symm.trans run)
    obtain ⟨dl, wbuf, blk⟩ := s.readTxn_memories a
    exact ⟨State.lineEntry_congr dl, State.workFrame?_congr wbuf, fun k _ _ => State.frame_congr blk k⟩
  · obtain rfl := Host.Outcome.next.inj (e.symm.trans run)
    obtain ⟨dl, wbuf, frame⟩ := s.writeTxn_memories a d
    refine ⟨State.lineEntry_congr dl, State.workFrame?_congr wbuf, fun k notWr notLdf => frame k fun target => ?_⟩
    rcases named k target with rfl | ⟨j, l, r, rfl, rfl⟩
    · exact notWr a d rfl target
    · exact notLdf j l r rfl target

end Sys2Proof.Machine

/-! What the engine does: which memories a micro-operation writes, the control registers it leaves alone, the
order of the sequencer, the wire `irq`. -/

namespace Sys2Proof.Machine

/-! ### Memories and registers -/

theorem nodup_ownedLines (i : Instr) : (ownedLines i).Nodup := by
  cases i with
  | echo | reverb | chorus | stereo => decide
  | _ => exact List.nodup_nil

namespace SoundStep

variable {i : Instr} {s t : State} (h : SoundStep i s t)
include h

/-- The lines written have no line twice, and are owned. -/
theorem written : ∃ ds v, ds.Nodup ∧ (∀ d ∈ ds, d ∈ ownedLines i) ∧
    t.dl = (s.linesWriteAdv ds v).dl ∧ t.cur = (s.linesWriteAdv ds v).cur := by
  obtain ⟨ds, v, rfl | rfl, dl, cur⟩ := h.lines
  · exact ⟨[], v, List.nodup_nil, nofun, dl, cur⟩
  · exact ⟨_, v, nodup_ownedLines i, fun _ owned => owned, dl, cur⟩

theorem lineEntry {d : Fin 10} {k : Nat} (other : d ∉ ownedLines i ∨ k ≠ s.cursor d) :
    t.lineEntry d k = s.lineEntry d k := by
  obtain ⟨ds, v, nodup, owned, dl, -⟩ := h.written
  rw [State.lineEntry_congr dl, State.lineEntry_linesWriteAdv nodup, if_neg]
  rintro ⟨mem, here⟩
  exact other.elim (fun unowned => unowned (owned d mem)) fun elsewhere => elsewhere here

theorem cursor {d : Fin 10} (unowned : d ∉ ownedLines i) : t.cursor d = s.cursor d := by
  obtain ⟨ds, v, nodup, owned, -, cur⟩ := h.written
  rw [State.cursor_congr cur, State.cursor_linesWriteAdv nodup, if_neg fun mem => unowned (owned d mem)]

end SoundStep

/-- Settles O44: LOAD writes no memory, a sound step its own lines, STORE one working frame, NORM the block. -/
theorem microOperationsStoreOnlyWhatTheyOwn : Obligations.MicroOperationsStoreOnlyWhatTheyOwn := by
  intro i s t micro run
  cases exec_microOp micro run with
  | load => exact ⟨fun _ _ _ => rfl, fun _ _ => rfl, fun _ _ => rfl, fun _ _ => rfl⟩
  | sound _ _ step =>
    have wbuf : t.wbuf = s.wbuf := by rw [step.frame]
    have blk : t.blk = s.blk := by rw [step.frame]
    exact ⟨fun _ _ => step.lineEntry, fun _ => step.cursor, fun k _ => State.workFrame?_congr wbuf k,
      fun k _ => State.frame_congr blk k⟩
  | store =>
    refine ⟨fun _ _ _ => rfl, fun _ _ => rfl, fun k other => ?_, fun _ _ => rfl⟩
    rw [State.workFrame?_storeOp, if_neg (other.resolve_left fun ne => ne rfl)]
  | norm _ block =>
    obtain ⟨-, above⟩ := State.outBlock?_spec block
    exact ⟨fun _ _ _ => rfl, fun _ _ => rfl, fun _ _ => rfl, fun k other =>
      above k (other.resolve_left fun ne => ne rfl)⟩

/-- Settles O45: the check sets flags, and no effect names a control register. -/
theorem engineOnlySetsDiagnosticsAndWritesNoControl : Obligations.EngineOnlySetsDiagnosticsAndWritesNoControl := by
  intro i s t micro run
  cases exec_microOp micro run with
  | sound _ _ step =>
    refine ⟨step.flags, ?_⟩
    rw [step.frame]
    exact ⟨rfl, rfl, rfl, rfl⟩
  | load | store | norm => exact ⟨BitVec.and_self, rfl, rfl, rfl, rfl⟩

/-! ### The sequencer (R38, R236) -/

/-- The step of a busy engine at its turn is the micro-operation its position names. -/
theorem step_busy {s t : State} {rest : List Event} (turn : s.events = [] ∨ s.events = .engine :: rest)
    (busy : s.busy = true) (h : step s = .next t) :
    ∃ es i, decodeUop s.sidx = some i ∧ exec i (s.withEvents es) = .next t := by
  have notHost (w : TxnWord) (es : List Event) : s.events ≠ .host w :: es := by
    rcases turn with e | e <;> simp [e]
  have notReset (es : List Event) : s.events ≠ .reset :: es := by
    rcases turn with e | e <;> simp [e]
  rcases step_next h with
    ⟨w, es, host, -⟩ | ⟨es, reset, -⟩ | ⟨es, -, idle, -⟩ | ⟨es, i, -, -, named, run⟩
  · exact absurd host (notHost w es)
  · exact absurd reset (notReset es)
  · exact absurd (busy.symm.trans idle) nofun
  · exact ⟨es, i, named, run⟩

/-- Settles O13, by what each micro-operation leaves at its own code. -/
theorem sequencerMovesInItsFixedOrder : Obligations.SequencerMovesInItsFixedOrder := by
  intro s t rest turn busy h
  obtain ⟨es, i, named, run⟩ := step_busy turn busy h
  have code : encodeWord i = .uop s.sidx := encodeWord_of_decodeUop named
  have micro : isMicroOp i = true := by rw [isMicroOp, code]
  cases exec_microOp micro run with
  | load =>
    have zero : 0#4 = s.sidx := Encoded.uop.inj code
    rw [← zero]
    exact ⟨rfl, fun _ => ⟨rfl, rfl, busy⟩, nofun, nofun⟩
  | sound notStore notNorm step =>
    have eight : s.sidx ≠ 8#4 := fun e => notStore (Option.some.inj (named.symm.trans (congrArg decodeUop e)))
    have nine : s.sidx ≠ 9#4 := fun e => notNorm (Option.some.inj (named.symm.trans (congrArg decodeUop e)))
    have sidx : t.sidx = s.sidx + 1#4 := step.next _ code
    rw [step.frame]
    exact ⟨rfl, fun _ => ⟨sidx, rfl, busy⟩, fun e => absurd e eight, fun e => absurd e nine⟩
  | store =>
    have eight : 8#4 = s.sidx := Encoded.uop.inj code
    rw [← eight]
    exact ⟨rfl, fun low => absurd low (by decide), fun _ => ⟨rfl, busy, rfl⟩, nofun⟩
  | norm =>
    have nine : 9#4 = s.sidx := Encoded.uop.inj code
    rw [← nine]
    exact ⟨rfl, fun low => absurd low (by decide), nofun, fun _ => ⟨nine.symm, rfl, rfl, rfl⟩⟩

/-! ### The wire `irq` (R57, R263) -/

theorem irq_congr {s t : State} (ie : t.doneIe = s.doneIe) (done : t.done = s.done) : t.irq = s.irq := by
  rw [State.irq, State.irq, ie, done]

/-- Settles O31: NORM sets `DONE`, START and ACK clear it, SETIE clears the enable, no other micro-operation writes
either. -/
theorem interruptFollowsCompletion : Obligations.InterruptFollowsCompletion := by
  intro s t
  refine ⟨fun run => ?_, fun idle run => ?_, fun run => ?_, fun d clear run => ?_, fun i micro notNorm run => ?_⟩
  · obtain ⟨-, b, -, rfl⟩ := execNorm_next run
    exact ⟨Bool.and_true _, rfl⟩
  · have start : s.writeTxn 0x000#12 1#32 = s.startBlock.accept 0#32 := if_neg (by simp [idle])
    obtain rfl : s.startBlock.accept 0#32 = t := start.symm.trans (Host.Outcome.next.inj run)
    exact Bool.and_false _
  · obtain rfl := Host.Outcome.next.inj run
    exact Bool.and_false _
  · obtain rfl := Host.Outcome.next.inj run
    refine ⟨?_, rfl⟩
    show (d.getLsbD 0 && s.done) = false
    rw [clear, Bool.false_and]
  · cases exec_microOp micro run with
    | sound _ _ step => exact irq_congr (by rw [step.frame]) (by rw [step.frame])
    | load | store => rfl
    | norm => exact absurd rfl notNorm

end Sys2Proof.Machine

/-! Noninterference (R47, R48): what no micro-operation reads. A state is given other diagnostics and other
storage-only parameters, and every micro-operation carries them along. -/

namespace Sys2Proof.Machine

/-- The registers of EFX that only report (R47, R274). -/
structure Report where
  diag : BitVec 7
  peak : Data
  scale : F
  normed : Bool

def State.report (s : State) : Report := ⟨s.diag, s.peak, s.scale, s.normed⟩

/-- The parameters of `r` where the datapath reads them, those of `p` where it does not (R48). -/
def ParamRegs.withStorage (r p : ParamRegs) : ParamRegs :=
  { r with
    rvLevel := p.rvLevel, chLevel := p.chLevel, stWidth := p.stWidth, limThresh := p.limThresh, limEn := p.limEn }

/-- The state with another report and other storage-only parameters. -/
def State.relabel (s : State) (r : Report) (p : ParamRegs) : State :=
  { s with
    diag := r.diag, peak := r.peak, scale := r.scale, normed := r.normed, params := s.params.withStorage p }

theorem State.relabel_report (s : State) (p : ParamRegs) :
    s.relabel s.report p = { s with params := s.params.withStorage p } := rfl

theorem State.functional_relabel (s : State) (r : Report) : (s.relabel r s.params).functional = s.functional := rfl

/-- `u` is `t` with the parameters `p` and some report, which is `t`'s own if the report before was `s`'s own. -/
def CarriesLabel (s t u : State) (r : Report) (p : ParamRegs) : Prop :=
  ∃ r', u = t.relabel r' p ∧ (r = s.report → r' = t.report)

/-! ### The updates carry the label -/

section
variable (s : State) (r : Report) (p : ParamRegs)

theorem State.relabel_check (n : Nat) : ∃ r', (s.relabel r p).check n = (s.check n).relabel r' p ∧
    (r = s.report → r' = (s.check n).report) := by
  rw [State.check_eq, State.check_eq]
  refine ⟨{ r with diag := if s.oor s.accL || s.oor s.accR then r.diag ||| (1#7 <<< n) else r.diag }, rfl, ?_⟩
  rintro rfl
  rfl

theorem relabel_runStage {t : State} {bit flag : Nat} {ds : List (Fin 10)} {c : UopCode} {body : State → State}
    (carries : body (s.relabel r p) = (body s).relabel r p) (report : (body s).report = s.report)
    (h : s.runStage bit ds flag c body = .next t) :
    ∃ u, (s.relabel r p).runStage bit ds flag c body = .next u ∧ CarriesLabel s t u r p := by
  obtain ⟨rfl, inside⟩ := State.runStage_next h
  refine ⟨_, State.runStage_runs (s := s.relabel r p) inside flag c body, ?_⟩
  cases on : s.enabled bit with
  | true =>
    have on' : (s.relabel r p).enabled bit = true := on
    obtain ⟨r', check, own⟩ := (body s).relabel_check r p flag
    rw [State.stage_on on, State.stage_on on', carries, check]
    exact ⟨r', rfl, fun e => own (e.trans report.symm)⟩
  | false =>
    have off : (s.relabel r p).enabled bit = false := on
    rw [State.stage_off on, State.stage_off off]
    exact ⟨r, rfl, id⟩

theorem State.linesWriteAdv_relabel (ds : List (Fin 10)) (v : F) :
    (s.relabel r p).linesWriteAdv ds v = (s.linesWriteAdv ds v).relabel r p := by
  induction ds generalizing s with
  | nil => rfl
  | cons d ds ih => exact ih (s.lineWriteAdv d v)

theorem State.phaseAdv_relabel (q : Fin 5) (f : F) :
    (s.relabel r p).phaseAdv q f = (s.phaseAdv q f).relabel r p := rfl

theorem State.linesWriteAdv_report (ds : List (Fin 10)) (v : F) : (s.linesWriteAdv ds v).report = s.report := by
  rw [State.linesWriteAdv_others]
  rfl

theorem State.reverbBody_relabel : (s.relabel r p).reverbBody = s.reverbBody.relabel r p :=
  (s.addBoth (s.fmul gRvMix s.reverbSum)).linesWriteAdv_relabel r p _ _

theorem State.reverbBody_report : s.reverbBody.report = s.report :=
  (s.addBoth _).linesWriteAdv_report _ _

theorem State.chorusBody_relabel : (s.relabel r p).chorusBody = s.chorusBody.relabel r p := by
  have lines : ((s.relabel r p).addBoth (s.relabel r p).chorusOut).linesWriteAdv [6, 7, 8] (s.relabel r p).dry =
      ((s.addBoth s.chorusOut).linesWriteAdv [6, 7, 8] s.dry).relabel r p :=
    (s.addBoth s.chorusOut).linesWriteAdv_relabel r p _ _
  rw [State.chorusBody, lines, State.phaseAdv_relabel, State.phaseAdv_relabel, State.phaseAdv_relabel]
  rfl

theorem State.chorusBody_report : s.chorusBody.report = s.report :=
  (s.addBoth s.chorusOut).linesWriteAdv_report [6, 7, 8] s.dry

theorem State.outBlock?_relabel (n : Nat) : (s.relabel r p).outBlock? n = s.outBlock? n := by
  induction n with
  | zero => rfl
  | succ n ih =>
    rw [State.outBlock?, State.outBlock?, ih]
    rfl

end

theorem execNorm_runs {s : State} {b : Memory Data} (le : s.nf.toNat ≤ s.cfg.blockMax)
    (block : s.outBlock? s.nf.toNat = some b) : execNorm s = .next (s.finishBlock b) := by
  rw [execNorm, if_pos le, block]

/-- No micro-operation reads the report or a storage-only parameter: it gives the same result but for them. -/
theorem exec_relabel {i : Instr} {s t : State} (micro : isMicroOp i = true) (h : exec i s = .next t) (r : Report)
    (p : ParamRegs) : ∃ u, exec i (s.relabel r p) = .next u ∧ CarriesLabel s t u r p := by
  cases i with
  | load =>
    unfold exec execLoad at h ⊢
    split_ifs at h with inside
    obtain rfl := Host.Outcome.next.inj h
    exact ⟨_, if_pos inside, r, rfl, id⟩
  | vol =>
    obtain rfl := Host.Outcome.next.inj h
    obtain ⟨r', check, own⟩ := (s.setAcc (s.fmul (s.i2f s.inL.toInt) s.params.gvol)
      (s.fmul (s.i2f s.inR.toInt) s.params.gvol)).relabel_check r p 0
    exact ⟨_, rfl, r', congrArg (fun u => u.setSidx 2#4) check, own⟩
  | echo => exact relabel_runStage s r p rfl rfl h
  | reverb => exact relabel_runStage s r p (s.reverbBody_relabel r p) s.reverbBody_report h
  | chorus => exact relabel_runStage s r p (s.chorusBody_relabel r p) s.chorusBody_report h
  | vibrato => exact relabel_runStage s r p rfl rfl h
  | tremolo => exact relabel_runStage s r p rfl rfl h
  | stereo => exact relabel_runStage s r p rfl rfl h
  | store =>
    unfold exec execStore at h ⊢
    split_ifs at h with inside
    obtain rfl := Host.Outcome.next.inj h
    exact ⟨_, if_pos inside, r, rfl, id⟩
  | norm =>
    obtain ⟨le, b, block, rfl⟩ := execNorm_next h
    have block' : (s.relabel r p).outBlock? s.nf.toNat = some b := (s.outBlock?_relabel r p _).trans block
    have run : exec .norm (s.relabel r p) = .next ((s.relabel r p).finishBlock b) := execNorm_runs le block'
    exact ⟨_, run, { (s.finishBlock b).report with diag := r.diag }, rfl, by rintro rfl; rfl⟩
  | _ => cases micro

/-- Settles O46: with its own report the state carries other storage-only parameters along. -/
theorem storageOnlyParametersAreNeverRead : Obligations.StorageOnlyParametersAreNeverRead := by
  intro i s t p micro gvol rvFb rvDamp chDepth chSpeed run
  have same : s.params.withStorage p = p := by
    rw [ParamRegs.withStorage, ← gvol, ← rvFb, ← rvDamp, ← chDepth, ← chSpeed]
  obtain ⟨-, -, params, -, -⟩ := engineOnlySetsDiagnosticsAndWritesNoControl i s t micro run
  obtain ⟨u, run', r', rfl, own⟩ := exec_relabel micro run s.report p
  rw [own rfl] at run'
  rw [State.relabel_report, State.relabel_report, params, same] at run'
  exact run'

/-- Settles O47: a state with the same functional part is the state with another report. -/
theorem diagnosticsDoNotReachTheDatapath : Obligations.DiagnosticsDoNotReachTheDatapath := by
  intro i s s' t micro same run
  have relabelled : s' = s.relabel s'.report s.params := by
    calc s' = s'.functional.relabel s'.report s'.functional.params := rfl
      _ = s.functional.relabel s'.report s.functional.params := by rw [same]
      _ = s.relabel s'.report s.params := rfl
  obtain ⟨-, -, params, -, -⟩ := engineOnlySetsDiagnosticsAndWritesNoControl i s t micro run
  obtain ⟨u, run', r', rfl, -⟩ := exec_relabel micro run s'.report s.params
  rw [← relabelled, ← params] at run'
  exact ⟨_, run', t.functional_relabel r'⟩

end Sys2Proof.Machine

/-! The turns of a run (R81, R106, R236): which operation a step performs, and what the two fields that are no state
of EFX, the turns still to come and the last answer, mean to the engine (R74, R118, R239). -/

namespace Sys2Proof.Machine

/-! ### The operation of a turn -/

/-- The step of a host turn. -/
theorem step_host {s : State} {w : TxnWord} {rest : List Event} (turn : s.events = .host w :: rest) :
    step s = exec (decodeTxn w) (s.withEvents rest) := by
  rw [step, nextTurn, turn]

/-- The step of a busy engine's turn. -/
theorem step_engine_busy {s : State} {rest : List Event} {i : Instr} (turn : engineHasTurn s rest)
    (busy : s.busy = true) (named : decodeUop s.sidx = some i) : step s = exec i (s.withEvents rest) := by
  rw [step, nextTurn_engine turn, engineTurn_busy (s := s.withEvents rest) busy named]

/-- The step of an idle engine's turn. -/
theorem step_engine_idle {s : State} {rest : List Event} (turn : engineHasTurn s rest) (idle : s.busy = false) :
    step s = .next (s.withEvents rest) := by
  rw [step, nextTurn_engine turn, engineTurn_idle (s := s.withEvents rest) idle]

/-- Settles O5: the bytes of a word decode to what the word is read as. -/
theorem stepRunsTheDecodedTransaction : Obligations.StepRunsTheDecodedTransaction := by
  intro s w rest i turn decoded
  obtain rfl := Except.ok.inj ((decode_txnBytes w).symm.trans decoded)
  exact step_host turn

/-- A word with bit 44 clear is a read (R101, R106). -/
theorem exec_decodeTxn_read {w : TxnWord} (read : w.getLsbD 44 = false) (s : State) :
    ∃ a, exec (decodeTxn w) s = .next (s.readTxn a) := by
  rw [decodeTxn, if_neg (by rw [read]; exact Bool.false_ne_true), decodeRead]
  split
  · exact ⟨_, rfl⟩
  · split
    · exact ⟨_, rfl⟩
    · exact ⟨_, rfl⟩

/-! ### The port -/

/-- The state with other turns to come and another last answer: the same state of EFX (log entries 2, 4). -/
def State.atPort (s : State) (es : List Event) (a : Option Answer) : State := { s with events := es, answer := a }

theorem State.efx_atPort (s : State) (es : List Event) (a : Option Answer) : (s.atPort es a).efx = s.efx := rfl

theorem State.readTxn_atPort (s : State) (x : Addr) : ∃ a, s.readTxn x = s.atPort s.events a := by
  rcases s.readTxn_cases x with e | ⟨v, e⟩
  · exact ⟨_, e⟩
  · exact ⟨_, e⟩

section
variable (s : State) (es : List Event) (a : Option Answer)

theorem State.check_atPort (n : Nat) : (s.atPort es a).check n = (s.check n).atPort es a := by
  rw [State.check_eq, State.check_eq]
  rfl

theorem State.linesWriteAdv_atPort (ds : List (Fin 10)) (v : F) :
    (s.atPort es a).linesWriteAdv ds v = (s.linesWriteAdv ds v).atPort es a := by
  induction ds generalizing s with
  | nil => rfl
  | cons d ds ih => exact ih (s.lineWriteAdv d v)

theorem State.phaseAdv_atPort (q : Fin 5) (f : F) : (s.atPort es a).phaseAdv q f = (s.phaseAdv q f).atPort es a := rfl

theorem State.reverbBody_atPort : (s.atPort es a).reverbBody = s.reverbBody.atPort es a :=
  (s.addBoth (s.fmul gRvMix s.reverbSum)).linesWriteAdv_atPort es a _ _

theorem State.chorusBody_atPort : (s.atPort es a).chorusBody = s.chorusBody.atPort es a := by
  have lines : ((s.atPort es a).addBoth (s.atPort es a).chorusOut).linesWriteAdv [6, 7, 8] (s.atPort es a).dry =
      ((s.addBoth s.chorusOut).linesWriteAdv [6, 7, 8] s.dry).atPort es a :=
    (s.addBoth s.chorusOut).linesWriteAdv_atPort es a _ _
  rw [State.chorusBody, lines, State.phaseAdv_atPort, State.phaseAdv_atPort, State.phaseAdv_atPort]
  rfl

theorem State.outBlock?_atPort (n : Nat) : (s.atPort es a).outBlock? n = s.outBlock? n := by
  induction n with
  | zero => rfl
  | succ n ih =>
    rw [State.outBlock?, State.outBlock?, ih]
    rfl

/-- A stage does not see the port when its body does not. -/
theorem runStage_atPort {t : State} {bit flag : Nat} {ds : List (Fin 10)} {c : UopCode} {body : State → State}
    (blind : body (s.atPort es a) = (body s).atPort es a) (h : s.runStage bit ds flag c body = .next t) :
    (s.atPort es a).runStage bit ds flag c body = .next (t.atPort es a) := by
  obtain ⟨rfl, inside⟩ := State.runStage_next h
  rw [State.runStage_runs (s := s.atPort es a) inside flag c body]
  cases on : s.enabled bit with
  | true =>
    have on' : (s.atPort es a).enabled bit = true := on
    rw [State.stage_on on, State.stage_on on', blind, State.check_atPort]
    rfl
  | false =>
    have off : (s.atPort es a).enabled bit = false := on
    rw [State.stage_off on, State.stage_off off]
    rfl

/-- No micro-operation reads or writes the port: it gives the same result but for it. -/
theorem exec_atPort {i : Instr} {t : State} (micro : isMicroOp i = true) (h : exec i s = .next t) :
    exec i (s.atPort es a) = .next (t.atPort es a) := by
  cases i with
  | load =>
    unfold exec execLoad at h ⊢
    split_ifs at h with inside
    obtain rfl := Host.Outcome.next.inj h
    exact if_pos inside
  | vol =>
    obtain rfl := Host.Outcome.next.inj h
    have check := (s.setAcc (s.fmul (s.i2f s.inL.toInt) s.params.gvol)
      (s.fmul (s.i2f s.inR.toInt) s.params.gvol)).check_atPort es a 0
    exact congrArg (fun u => Host.Outcome.next (u.setSidx 2#4)) check
  | echo => exact runStage_atPort s es a rfl h
  | reverb => exact runStage_atPort s es a (s.reverbBody_atPort es a) h
  | chorus => exact runStage_atPort s es a (s.chorusBody_atPort es a) h
  | vibrato => exact runStage_atPort s es a rfl h
  | tremolo => exact runStage_atPort s es a rfl h
  | stereo => exact runStage_atPort s es a rfl h
  | store =>
    unfold exec execStore at h ⊢
    split_ifs at h with inside
    obtain rfl := Host.Outcome.next.inj h
    exact if_pos inside
  | norm =>
    obtain ⟨le, b, block, rfl⟩ := execNorm_next h
    exact execNorm_runs (s := s.atPort es a) le ((s.outBlock?_atPort es a _).trans block)
  | _ => cases micro

end

/-! ### Reads between the engine's steps -/

section
variable {s t : State} {es : List Event} {a : Option Answer}

/-- A host read takes its turn and leaves an answer: EFX stays as it is (R74, R232). -/
theorem step_read {w : TxnWord} (read : w.getLsbD 44 = false) (h : step (s.atPort (.host w :: es) a) = .next t) :
    ∃ a', t = s.atPort es a' := by
  rw [step_host (rest := es) rfl] at h
  obtain ⟨x, run⟩ := exec_decodeTxn_read read (s.atPort es a)
  obtain rfl := Host.Outcome.next.inj (run.symm.trans h)
  exact (s.atPort es a).readTxn_atPort x

/-- The engine's step takes its turn and leaves the answer, and goes the same way whatever stands at the port. -/
theorem step_engine_atPort (h : step (s.atPort (.engine :: es) a) = .next t) :
    t = t.atPort es a ∧ ∀ es' a', step (s.atPort (.engine :: es') a') = .next (t.atPort es' a') := by
  cases busy : s.busy with
  | false =>
    have idle (es' : List Event) (a' : Option Answer) :
        step (s.atPort (.engine :: es') a') = .next (s.atPort es' a') := step_engine_idle (.inr rfl) busy
    obtain rfl := Host.Outcome.next.inj ((idle es a).symm.trans h)
    exact ⟨rfl, idle⟩
  | true =>
    obtain ⟨-, i, named, -⟩ := step_busy (s := s.atPort (.engine :: es) a) (.inr rfl) busy h
    have runs (es' : List Event) (a' : Option Answer) :
        step (s.atPort (.engine :: es') a') = exec i (s.atPort es' a') := step_engine_busy (.inr rfl) busy named
    have micro : isMicroOp i = true := by rw [isMicroOp, encodeWord_of_decodeUop named]
    have run : exec i (s.atPort es a) = .next t := (runs es a).symm.trans h
    have same (es' : List Event) (a' : Option Answer) : exec i (s.atPort es' a') = .next (t.atPort es' a') :=
      exec_atPort (s.atPort es a) es' a' micro run
    exact ⟨Host.Outcome.next.inj (run.symm.trans (same es a)), fun es' a' => (runs es' a').trans (same es' a')⟩

end

/-- A run that goes on is a step that goes on, and the rest of the run. -/
theorem run_succ_next_iff {M : Host.Core} {k : Nat} {s t : M.State} :
    M.run (k + 1) s = .next t ↔ ∃ u, M.step s = .next u ∧ M.run k u = .next t := by
  rw [Host.Core.run]
  cases M.step s with
  | next u => simp
  | fault | refused => simp

/-- The run without the reads, from the same state of EFX with any last answer: by induction on the turns. -/
theorem run_without_reads (es : List Event) (s t : State) (a b : Option Answer)
    (reads : ∀ e ∈ es, e = .engine ∨ ∃ w : TxnWord, w.getLsbD 44 = false ∧ e = .host w)
    (run : Host.Core.run core es.length (s.atPort es a) = .next t) :
    ∃ u, Host.Core.run core (es.count .engine) (s.atPort (List.replicate (es.count .engine) .engine) b) = .next u ∧
      u.efx = t.efx := by
  induction es generalizing s a b with
  | nil =>
    obtain rfl := Host.Outcome.next.inj run
    exact ⟨_, rfl, (s.efx_atPort [] b).trans (s.efx_atPort [] a).symm⟩
  | cons e es ih =>
    obtain ⟨here, later⟩ := List.forall_mem_cons.mp reads
    obtain ⟨v, first, rest⟩ := run_succ_next_iff.mp run
    rcases here with rfl | ⟨w, read, rfl⟩
    · obtain ⟨port, same⟩ := step_engine_atPort first
      rw [port] at rest
      obtain ⟨u, tail, efx⟩ := ih v a b later rest
      rw [List.count_cons_self, List.replicate_succ]
      exact ⟨u, run_succ_next_iff.mpr ⟨_, same _ b, tail⟩, efx⟩
    · obtain ⟨a', rfl⟩ := step_read read first
      rw [List.count_cons_of_ne (show Event.host w ≠ .engine from nofun)]
      exact ih s a' b later rest

/-- Settles O16: a read changes nothing but the port, and the engine does not see the port. -/
theorem hostReadsDoNotDisturbTheEngine : Obligations.HostReadsDoNotDisturbTheEngine :=
  fun es s t reads run => run_without_reads es s t s.answer s.answer reads run

end Sys2Proof.Machine

/-! The two encodings (R100 to R117): every word is read as the one operation that stands for it, and what is encoded
is read back. -/

namespace Sys2Proof.Machine

/-! ### Codes of micro-operations (R103, R104, R112) -/

theorem decodeUop_eq_some_iff (c : UopCode) (i : Instr) : decodeUop c = some i ↔ encodeWord i = .uop c := by
  refine ⟨encodeWord_of_decodeUop, fun code => ?_⟩
  cases i with
  | load | vol | echo | reverb | chorus | vibrato | tremolo | stereo | store | norm =>
    obtain rfl := Encoded.uop.inj code
    rfl
  | _ => cases code

/-- Settles O3: each code is looked up both ways. -/
theorem codesNameTheMicroOperations : Obligations.CodesNameTheMicroOperations :=
  ⟨decodeUop_eq_some_iff, by decide⟩

/-- A code is one byte whose top four bits are zero (log entry 5). -/
theorem decode_uopByte {c : UopCode} {i : Instr} (named : decodeUop c = some i) : decode [0#4 ++ c] = .ok i := by
  have top : (0#4 ++ c).extractLsb' 4 4 = 0#4 := BitVec.extractLsb'_append_eq_left
  have code : (0#4 ++ c).extractLsb' 0 4 = c := BitVec.extractLsb'_append_eq_right
  simp only [decode, top, if_true, code, named]

/-! ### Frame addresses and frame words (R54, R105) -/

theorem inFrameWindow_iff (a : Addr) : inFrameWindow a = true ↔ a.extractLsb' 10 2 = 0b01#2 := beq_iff_eq

@[simp] theorem extractLsb'_frameAddr (k : BitVec 10) : (frameAddr k).extractLsb' 0 10 = k :=
  BitVec.extractLsb'_append_eq_right

@[simp] theorem inFrameWindow_frameAddr (k : BitVec 10) : inFrameWindow (frameAddr k) = true :=
  (inFrameWindow_iff _).mpr BitVec.extractLsb'_append_eq_left

/-- An address of the window is the address of its frame. -/
theorem frameAddr_extractLsb' {a : Addr} (window : inFrameWindow a = true) : frameAddr (a.extractLsb' 0 10) = a := by
  rw [frameAddr, ← (inFrameWindow_iff a).mp window]
  exact BitVec.extractLsb'_append_extractLsb'

/-- `BLK[k]` stands at `0x400 + k`. -/
theorem ofNat_frameAddr (k : BitVec 10) : BitVec.ofNat 12 (0x400 + k.toNat) = frameAddr k := by
  rw [← toNat_frameAddr, BitVec.ofNat_toNat, BitVec.setWidth_eq]

@[simp] theorem packFrame_left (l r : Sample) : (packFrame l r).extractLsb' 0 16 = l :=
  BitVec.extractLsb'_append_eq_right

@[simp] theorem packFrame_right (l r : Sample) : (packFrame l r).extractLsb' 16 16 = r :=
  BitVec.extractLsb'_append_eq_left

/-- A frame word is its two samples. -/
theorem packFrame_extractLsb' (d : Data) : packFrame (d.extractLsb' 0 16) (d.extractLsb' 16 16) = d :=
  BitVec.extractLsb'_append_extractLsb'

/-! ### Which words a named form stands for (R117) -/

theorem isControlWrite_iff (a : Addr) :
    isControlWrite a = true ↔ a = 0x002#12 ∨ a = 0x003#12 ∨ a = 0x004#12 ∨ a = 0x005#12 := by
  simp only [isControlWrite, Bool.or_eq_true, beq_iff_eq, or_assoc]

theorem isParamWrite_iff (a : Addr) :
    isParamWrite a = true ↔ a = 0x010#12 ∨ a = 0x011#12 ∨ a = 0x012#12 ∨ a = 0x013#12 ∨ a = 0x014#12 ∨
      a = 0x015#12 ∨ a = 0x016#12 ∨ a = 0x017#12 ∨ a = 0x018#12 ∨ a = 0x019#12 := by
  simp only [isParamWrite, Bool.and_eq_true, decide_eq_true_eq]
  bv_omega

/-- What it means that no named form stands for a write. -/
theorem wellFormed_wr_iff (a : Addr) (d : Data) : WellFormed (.wr a d) ↔
    ¬ (a = 0x000#12 ∧ d = 1#32) ∧ ¬ (a = 0x001#12 ∧ d = 2#32) ∧ ¬ isControlWrite a = true ∧
      ¬ isParamWrite a = true ∧ ¬ inFrameWindow a = true := by
  simp only [WellFormed, wellFormed, isStartWrite, isAckWrite, Bool.and_eq_true, Bool.not_eq_true', ← Bool.not_eq_true,
    beq_iff_eq, and_assoc]

/-- What it means that no named form stands for a read. -/
theorem wellFormed_rd_iff (a : Addr) : WellFormed (.rd a) ↔ a ≠ 0x001#12 ∧ ¬ inFrameWindow a = true := by
  simp only [WellFormed, wellFormed, isStatusRead, Bool.and_eq_true, Bool.not_eq_true', ← Bool.not_eq_true, beq_iff_eq,
    ne_eq]

/-! ### The reading of a write and of a read (R106, R117) -/

/-- A write that no named form stands for is read as `WR`. -/
theorem decodeWrite_of_wellFormed {a : Addr} {d : Data} (plain : WellFormed (.wr a d)) : decodeWrite a d = .wr a d := by
  obtain ⟨start, ack, control, param, frame⟩ := (wellFormed_wr_iff a d).mp plain
  simp only [isControlWrite_iff, not_or] at control
  simp only [isParamWrite_iff, not_or] at param
  simp only [decodeWrite, control, param, frame, if_false, Bool.false_eq_true]
  split_ifs with cmd one status two
  · exact absurd ⟨cmd, one⟩ start
  · rfl
  · exact absurd ⟨status, two⟩ ack
  · rfl
  · rfl

/-- A write into the window of the block is read as `LDF`. -/
theorem decodeWrite_of_inFrameWindow {a : Addr} (window : inFrameWindow a = true) (d : Data) :
    decodeWrite a d = .ldf (a.extractLsb' 0 10) (d.extractLsb' 0 16) (d.extractLsb' 16 16) := by
  unfold decodeWrite
  iterate 16 rw [if_neg (by rintro rfl; cases window)]
  rw [if_pos window]

theorem decodeRead_of_wellFormed {a : Addr} (plain : WellFormed (.rd a)) : decodeRead a = .rd a := by
  obtain ⟨status, frame⟩ := (wellFormed_rd_iff a).mp plain
  rw [decodeRead, if_neg status, if_neg frame]

/-- A read in the window of the block is read as `RDF`. -/
theorem decodeRead_of_inFrameWindow {a : Addr} (window : inFrameWindow a = true) :
    decodeRead a = .rdf (a.extractLsb' 0 10) := by
  rw [decodeRead, if_neg (by rintro rfl; cases window), if_pos window]

/-- The operation is the well-formed spelling of the word. -/
def Spells (i : Instr) (e : Encoded) : Prop := WellFormed i ∧ encodeWord i = e

/-- A write is read as the operation that stands for it, along the five ways a write can have a name (R117). -/
theorem decodeWrite_spells (a : Addr) (d : Data) : Spells (decodeWrite a d) (.txn (writeWord a d)) := by
  by_cases start : a = 0x000#12 ∧ d = 1#32
  · obtain ⟨rfl, rfl⟩ := start
    exact ⟨rfl, rfl⟩
  by_cases ack : a = 0x001#12 ∧ d = 2#32
  · obtain ⟨rfl, rfl⟩ := ack
    exact ⟨rfl, rfl⟩
  by_cases control : isControlWrite a = true
  · rcases (isControlWrite_iff a).mp control with rfl | rfl | rfl | rfl <;> exact ⟨rfl, rfl⟩
  by_cases param : isParamWrite a = true
  · rcases (isParamWrite_iff a).mp param with rfl | rfl | rfl | rfl | rfl | rfl | rfl | rfl | rfl | rfl <;>
      exact ⟨rfl, rfl⟩
  by_cases window : inFrameWindow a = true
  · rw [decodeWrite_of_inFrameWindow window]
    exact ⟨rfl, by rw [encodeWord, frameAddr_extractLsb' window, packFrame_extractLsb']⟩
  have plain := (wellFormed_wr_iff a d).mpr ⟨start, ack, control, param, window⟩
  rw [decodeWrite_of_wellFormed plain]
  exact ⟨plain, rfl⟩

/-- A read is read as the operation that stands for it. -/
theorem decodeRead_spells (a : Addr) : Spells (decodeRead a) (.txn (readWord a)) := by
  by_cases status : a = 0x001#12
  · obtain rfl := status
    exact ⟨rfl, rfl⟩
  by_cases window : inFrameWindow a = true
  · rw [decodeRead_of_inFrameWindow window]
    exact ⟨rfl, by rw [encodeWord, frameAddr_extractLsb' window]⟩
  have plain := (wellFormed_rd_iff a).mpr ⟨status, window⟩
  rw [decodeRead_of_wellFormed plain]
  exact ⟨plain, rfl⟩

/-! ### Transaction words (R101) -/

/-- The three fields of a word: direction, address, data. -/
theorem decodeTxn_append (write : Bool) (a : Addr) (d : Data) :
    decodeTxn (BitVec.ofBool write ++ a ++ d) = if write then decodeWrite a d else decodeRead a := by
  have direction : (BitVec.ofBool write ++ a ++ d).getLsbD 44 = write := by
    rw [BitVec.getLsbD_append, if_neg (by decide), BitVec.getLsbD_append, if_neg (by decide)]
    cases write <;> rfl
  have address : (BitVec.ofBool write ++ a ++ d).extractLsb' 32 12 = a := by
    rw [BitVec.extractLsb'_append_eq_of_le (by decide)]
    exact BitVec.extractLsb'_append_eq_right
  have data : (BitVec.ofBool write ++ a ++ d).extractLsb' 0 32 = d := BitVec.extractLsb'_append_eq_right
  rw [decodeTxn, direction, address, data]

theorem decodeTxn_writeWord (a : Addr) (d : Data) : decodeTxn (writeWord a d) = decodeWrite a d :=
  decodeTxn_append true a d

theorem decodeTxn_readWord (a : Addr) : decodeTxn (readWord a) = decodeRead a := decodeTxn_append false a 0#32

/-- A word with bit 44 set is the write of its address and data. -/
theorem writeWord_extractLsb' {w : TxnWord} (write : w.getLsbD 44 = true) :
    writeWord (w.extractLsb' 32 12) (w.extractLsb' 0 32) = w := by
  have direction : 1#1 = w.extractLsb' 44 1 := by
    ext k hk
    simp [show k = 0 by omega, ← BitVec.getLsbD_eq_getElem, write]
  rw [writeWord, direction, BitVec.extractLsb'_append_extractLsb'_eq_extractLsb' (by decide)]
  exact BitVec.extractLsb'_append_extractLsb'

/-- Settles O2: a word is a write or a read, and each is read as the operation that stands for it. -/
theorem everyTransactionWordIsReadOrWrite : Obligations.EveryTransactionWordIsReadOrWrite := by
  intro w
  cases write : w.getLsbD 44 with
  | true =>
    have spells := decodeWrite_spells (w.extractLsb' 32 12) (w.extractLsb' 0 32)
    rwa [← decodeTxn_writeWord, writeWord_extractLsb' write] at spells
  | false =>
    have spells := decodeRead_spells (w.extractLsb' 32 12)
    rw [decodeTxn, write]
    exact spells

/-- The word of a well-formed transaction is read as that transaction: the named forms by their addresses. -/
theorem decodeTxn_of_encodeWord {i : Instr} {w : TxnWord} (wf : WellFormed i) (h : encodeWord i = .txn w) :
    decodeTxn w = i := by
  cases i with
  | load | vol | echo | reverb | chorus | vibrato | tremolo | stereo | store | norm => cases h
  | wr a d =>
    obtain rfl := Encoded.txn.inj h
    rw [decodeTxn_writeWord, decodeWrite_of_wellFormed wf]
  | ldf k l r =>
    obtain rfl := Encoded.txn.inj h
    simp [decodeTxn_writeWord, decodeWrite_of_inFrameWindow]
  | rd a =>
    obtain rfl := Encoded.txn.inj h
    rw [decodeTxn_readWord, decodeRead_of_wellFormed wf]
  | rdf k =>
    obtain rfl := Encoded.txn.inj h
    simp [decodeTxn_readWord, decodeRead_of_inFrameWindow]
  | rds =>
    obtain rfl := Encoded.txn.inj h
    exact decodeTxn_readWord _
  | _ =>
    obtain rfl := Encoded.txn.inj h
    exact decodeTxn_writeWord _ _

/-! ### Bytes (log entry 5) -/

/-- Settles O1: the bytes give the word back, and the word the operation. -/
theorem decodeAfterEncodeIsIdentity : Obligations.DecodeAfterEncodeIsIdentity := by
  intro i wf
  cases word : encodeWord i with
  | txn w =>
    rw [encode, word]
    exact (decode_txnBytes w).trans (congrArg Except.ok (decodeTxn_of_encodeWord wf word))
  | uop c =>
    rw [encode, word]
    exact decode_uopByte ((decodeUop_eq_some_iff c i).mpr word)

/-- Settles O4: the words of the spec, each evaluated. -/
theorem wordsOfTheSpecDecode : Obligations.WordsOfTheSpecDecode := by
  unfold Obligations.WordsOfTheSpecDecode
  decide

/-! ### Named forms (R117, R234) -/

/-- Settles O22: a named form is defined by its transaction; the frame address is `0x400 + k`. -/
theorem namedFormsAreTheirTransactions : Obligations.NamedFormsAreTheirTransactions := by
  intro s d k l r
  rw [ofNat_frameAddr]
  exact ⟨rfl, rfl, rfl, rfl, rfl, rfl, rfl, rfl, rfl, rfl, rfl, rfl, rfl, rfl, rfl, rfl, rfl, rfl, rfl⟩

end Sys2Proof.Machine

/-! Delay lines (R130 to R136): one write, and the law of any number of writes. -/

namespace Sys2Proof.Machine

/-! ### One write and the offsets that name the cursor -/

/-- Settles O48, by the two rules of a write. -/
theorem writeAdvanceStoresAtTheCursor : Obligations.WriteAdvanceStoresAtTheCursor :=
  fun s d e v k => ⟨s.lineEntry_lineWriteAdv d e v k, s.cursor_lineWriteAdv d e v, rfl⟩

/-- Settles O50: the offset `N[d] mod N[d]` is 0. -/
theorem chorusOffsetIsTheCursor : Obligations.ChorusOffsetIsTheCursor := by
  intro s d inside
  rw [Nat.mod_self]
  exact ⟨State.lineRead_zero inside, State.lineRead_size inside, State.lineRead_zero inside⟩

/-! ### Any number of writes into one line -/

/-- `DL.write_adv` of several values into one line, in order. -/
def State.lineWrites (s : State) (d : Fin 10) (xs : List F) : State :=
  xs.foldl (fun u x => u.lineWriteAdv d x) s

section
variable {s : State} {d : Fin 10}

theorem State.lineWrites_cons (x : F) (xs : List F) :
    s.lineWrites d (x :: xs) = (s.lineWriteAdv d x).lineWrites d xs := rfl

theorem State.lineWrites_append (xs ys : List F) :
    s.lineWrites d (xs ++ ys) = (s.lineWrites d xs).lineWrites d ys := List.foldl_append

theorem State.lineSize_lineWrites (xs : List F) : (s.lineWrites d xs).lineSize d = s.lineSize d := by
  induction xs generalizing s with
  | nil => rfl
  | cons x xs ih => exact ih

theorem State.cursor_lineWriteAdv_self (v : F) :
    (s.lineWriteAdv d v).cursor d = (s.cursor d + 1) % s.lineSize d := by
  rw [State.cursor_lineWriteAdv, if_pos rfl]

theorem State.cursor_lineWriteAdv_lt (inside : s.cursor d < s.lineSize d) (v : F) :
    (s.lineWriteAdv d v).cursor d < (s.lineWriteAdv d v).lineSize d := by
  rw [State.cursor_lineWriteAdv_self, State.lineSize_lineWriteAdv]
  exact Nat.mod_lt _ (Nat.zero_lt_of_lt inside)

theorem State.cursor_lineWrites (inside : s.cursor d < s.lineSize d) (xs : List F) :
    (s.lineWrites d xs).cursor d = (s.cursor d + xs.length) % s.lineSize d := by
  induction xs generalizing s with
  | nil => exact (Nat.mod_eq_of_lt inside).symm
  | cons x xs ih =>
    rw [State.lineWrites_cons, ih (State.cursor_lineWriteAdv_lt inside x), State.cursor_lineWriteAdv_self,
      State.lineSize_lineWriteAdv, Nat.mod_add_mod, List.length_cons, Nat.add_assoc, Nat.add_comm 1]

theorem State.cursor_lineWrites_lt (inside : s.cursor d < s.lineSize d) (xs : List F) :
    (s.lineWrites d xs).cursor d < (s.lineWrites d xs).lineSize d := by
  rw [State.cursor_lineWrites inside, State.lineSize_lineWrites]
  exact Nat.mod_lt _ (Nat.zero_lt_of_lt inside)

/-- The writes pass the entries from the cursor on; an entry that none of them passes is as before. -/
theorem State.lineEntry_lineWrites (inside : s.cursor d < s.lineSize d) {xs : List F} {k : Nat}
    (unpassed : ∀ j, j < xs.length → k ≠ (s.cursor d + j) % s.lineSize d) :
    (s.lineWrites d xs).lineEntry d k = s.lineEntry d k := by
  induction xs generalizing s with
  | nil => rfl
  | cons x xs ih =>
    have first : k ≠ s.cursor d := by
      have := unpassed 0 (Nat.zero_lt_succ _)
      rwa [Nat.add_zero, Nat.mod_eq_of_lt inside] at this
    have later : ∀ j, j < xs.length →
        k ≠ ((s.lineWriteAdv d x).cursor d + j) % (s.lineWriteAdv d x).lineSize d := by
      intro j hj
      rw [State.cursor_lineWriteAdv_self, State.lineSize_lineWriteAdv, Nat.mod_add_mod, Nat.add_assoc,
        Nat.add_comm 1]
      exact unpassed (j + 1) (Nat.succ_lt_succ hj)
    rw [State.lineWrites_cons, ih (State.cursor_lineWriteAdv_lt inside x) later, State.lineEntry_lineWriteAdv,
      if_neg fun same => first same.2]

/-- Fewer steps than the whole line do not lead back to where they began. -/
theorem ne_add_mod {c j n : Nat} (hc : c < n) (pos : 0 < j) (hj : j < n) : c ≠ (c + j) % n := by
  rw [Nat.add_mod_eq_ite, Nat.mod_eq_of_lt hc, Nat.mod_eq_of_lt hj]
  split <;> omega

/-- The entry as far behind the cursor as there have been writes is where the first of them went. -/
theorem State.lineIndex_lineWrites (inside : s.cursor d < s.lineSize d) {xs : List F}
    (room : xs.length ≤ s.lineSize d) : (s.lineWrites d xs).lineIndex d xs.length = s.cursor d := by
  rw [State.lineIndex, State.cursor_lineWrites inside, State.lineSize_lineWrites, Nat.mod_add_mod, Nat.add_assoc,
    Nat.add_sub_cancel' room, Nat.add_mod_right, Nat.mod_eq_of_lt inside]

/-- The first of at most `N[d]` writes is read at the offset of their number (R133). -/
theorem State.lineRead_lineWrites (inside : s.cursor d < s.lineSize d) {v : F} {ys : List F}
    (room : (v :: ys).length ≤ s.lineSize d) :
    (s.lineWrites d (v :: ys)).lineRead d (v :: ys).length = v := by
  have unpassed : ∀ j, j < ys.length →
      s.cursor d ≠ ((s.lineWriteAdv d v).cursor d + j) % (s.lineWriteAdv d v).lineSize d := by
    intro j hj
    rw [List.length_cons] at room
    rw [State.cursor_lineWriteAdv_self, State.lineSize_lineWriteAdv, Nat.mod_add_mod, Nat.add_assoc]
    exact ne_add_mod inside (by omega) (by omega)
  rw [State.lineRead, State.lineIndex_lineWrites inside room, State.lineWrites_cons,
    State.lineEntry_lineWrites (State.cursor_lineWriteAdv_lt inside v) unpassed, State.lineEntry_lineWriteAdv,
    if_pos ⟨rfl, rfl⟩]

end

/-- Settles O49: the writes before `v` only move the cursor, and those after it do not come round to its entry. -/
theorem lineReturnsWhatWasWrittenBefore : Obligations.LineReturnsWhatWasWrittenBefore := by
  intro s d xs ys v inside room
  refine ⟨?_, State.cursor_lineWrites inside _⟩
  show (s.lineWrites d (xs ++ v :: ys)).lineRead d (v :: ys).length = v
  rw [State.lineWrites_append]
  refine State.lineRead_lineWrites (State.cursor_lineWrites_lt inside xs) ?_
  rwa [State.lineSize_lineWrites]

end Sys2Proof.Machine

/-! The one rounding keeps the order, the exact difference, and the phases (R137 to R139). -/

namespace Sys2Proof.Machine

/-! ### The rounding keeps the order (R11) -/

/-- A value above a multiple that is not below `n` is farther from `n` than that multiple. -/
theorem distance_lt_of_gt {n d v w : Nat} (hd : 0 < d) (hv : w < v) (hw : n ≤ d * w) :
    distance n d w < distance n d v := by
  have : d * w < d * v := Nat.mul_lt_mul_of_pos_left hv hd
  unfold distance
  omega

/-- Patterns in order are magnitudes in order. -/
theorem magUnits_withSign_lt {p m : Nat} (h : p < m) (hm : m < 2 ^ 31) :
    magUnits (withSign false p) < magUnits (withSign false m) := by
  apply magUnits_lt
  rwa [toNat_mod_withSign (h.trans hm), toNat_mod_withSign hm]

theorem magUnits_withSign_le {p m : Nat} (h : p ≤ m) (hm : m < 2 ^ 31) :
    magUnits (withSign false p) ≤ magUnits (withSign false m) := by
  apply magUnits_le
  rwa [toNat_mod_withSign (h.trans_lt hm), toNat_mod_withSign hm]

/-- What is at most a finite value is rounded to at most that value. -/
theorem roundMag_le_of_le {n d p : Nat} (hd : 0 < d) (hp : p < 0x7F800000)
    (h : n ≤ d * magUnits (withSign false p)) : roundMag n d ≤ p := by
  by_contra above
  have finite : roundMag n d < 0x7F800000 :=
    roundMag_finite hd (h.trans (Nat.mul_le_mul_left d (magUnits_le_of_isFinite (isFinite_withSign hp false))))
  have farther := distance_lt_of_gt hd (magUnits_withSign_lt (Nat.lt_of_not_le above) (by omega)) h
  obtain ⟨nearest, -⟩ := roundMag_nearest hd finite (show p < 2 ^ 31 by omega) false
  exact absurd nearest (Nat.not_le_of_lt farther)

/-- What is at least a finite value is rounded to at least that value. -/
theorem le_roundMag_of_le {n d p : Nat} (hd : 0 < d) (hp : p < 0x7F800000)
    (h : d * magUnits (withSign false p) ≤ n) : p ≤ roundMag n d := by
  by_contra below
  have farther := distance_lt_of_lt hd (magUnits_withSign_lt (Nat.lt_of_not_le below) (by omega)) h
  have finite : roundMag n d < 0x7F800000 := by omega
  obtain ⟨nearest, -⟩ := roundMag_nearest hd finite (show p < 2 ^ 31 by omega) false
  exact absurd nearest (Nat.not_le_of_lt farther)

/-- A finite value without a sign that is at most `m` units. -/
def FromZeroTo (m : Nat) (x : F) : Prop := isFinite x = true ∧ 0 ≤ units x ∧ units x ≤ m

theorem fromZeroTo_zero (m : Nat) (neg : Bool) : FromZeroTo m (withSign neg 0) :=
  ⟨isFinite_withSign (by decide) neg, (units_withSign_zero neg).ge, by rw [units_withSign_zero]; omega⟩

theorem units_withSign_false {p : Nat} (hp : p < 2 ^ 31) : units (withSign false p) = magUnits (withSign false p) := by
  rw [units, signBit_withSign hp]
  rfl

/-- The rounding of a number between 0 and a finite value. -/
theorem fromZeroTo_roundUnits {n d p : Nat} (hd : 0 < d) (hp : p < 0x7F800000)
    (h : n ≤ d * magUnits (withSign false p)) :
    FromZeroTo (magUnits (withSign false p)) (roundUnits false n d) := by
  have le := roundMag_le_of_le hd hp h
  rw [FromZeroTo, roundUnits, units_withSign_false (by omega)]
  exact ⟨isFinite_withSign (by omega) false, Int.natCast_nonneg _,
    Int.ofNat_le.mpr (magUnits_withSign_le le (by omega))⟩

/-- The sum of two finite values, when it lies between 0 and a finite value. -/
theorem fromZeroTo_fadd {x y : F} {p : Nat} (hx : isFinite x = true) (hy : isFinite y = true)
    (hp : p < 0x7F800000) (lo : 0 ≤ units x + units y) (hi : units x + units y ≤ magUnits (withSign false p)) :
    FromZeroTo (magUnits (withSign false p)) (fadd x y) := by
  rw [fadd_finite hx hy, addNumbers_finite _ _ _ hx hy]
  split
  · exact fromZeroTo_zero _ _
  · rw [decide_eq_false (not_lt.mpr lo)]
    refine fromZeroTo_roundUnits Nat.one_pos hp ?_
    omega

/-! ### The exact difference (R11) -/

theorem units_negate (x : F) : units (negate x) = -units x := by
  have magnitude : magUnits (negate x) = magUnits x := magUnits_pattern x _
  rw [units, units, signBit_negate, magnitude]
  cases signBit x <;> simp

/-- A representable difference is exact. -/
theorem fsub_exact {x y : F} (hx : isFinite x = true) (hy : isFinite y = true)
    (hz : Representable (units x - units y).natAbs) :
    isFinite (fsub x y) = true ∧ units (fsub x y) = units x - units y := by
  have sum : fsub x y = fadd x (negate y) := by
    rw [fsub_finite hx hy, fadd_finite hx (isFinite_negate hy), addNumbers_finite _ _ _ hx (isFinite_negate hy),
      addNumbers_finite _ _ _ hx (isFinite_negate hy)]
  rw [Int.sub_eq_add_neg, ← units_negate] at hz ⊢
  rw [sum]
  exact fadd_exact hx (isFinite_negate hy) hz

/-! ### The turn [0, 2π) (R52) -/

/-- The magnitude pattern of the last value before `TWO_PI`. -/
def lastPhase : Nat := 0x40C90FDA

/-- The last place of `TWO_PI` is `2^128` units; the value before it is one place below. -/
theorem units_twoPi : units twoPi = 0xC90FDB * 2 ^ 128 := by decide +kernel

theorem magUnits_lastPhase : magUnits (withSign false lastPhase) = 0xC90FDA * 2 ^ 128 := by decide +kernel

/-- Twice the last value before `TWO_PI` is a value too: the next exponent. -/
theorem magUnits_twice_lastPhase :
    magUnits (withSign false (lastPhase + 2 ^ 23)) = 2 * (0xC90FDA * 2 ^ 128) := by decide +kernel

/-- A value that is smaller than a finite one is finite. -/
theorem isFinite_of_magUnits_lt {x y : F} (hy : isFinite y = true) (h : magUnits x < magUnits y) :
    isFinite x = true := by
  have bound := (isFinite_iff y).mp hy
  rw [isFinite_iff]
  by_contra large
  exact absurd (magUnits_le (x := y) (y := x) (by omega)) (Nat.not_le_of_lt h)

theorem inTurn_iff (x : F) : inTurn x = true ↔ isFinite x = true ∧ 0 ≤ units x ∧ units x < units twoPi := by
  cases nan : isNaN x with
  | true =>
    have infinite : ¬ isFinite x = true := fun finite => by simp [isNaN_of_isFinite finite] at nan
    simp [inTurn, fle, nan, infinite]
  | false =>
    have finite : 0 ≤ units x → units x < units twoPi → isFinite x = true := by
      intro lo hi
      refine isFinite_of_magUnits_lt (y := twoPi) (by decide) ?_
      rw [← natAbs_units, ← natAbs_units]
      omega
    have low : fle 0#32 x = true ↔ 0 ≤ units x := fle_iff (by decide) nan
    have high : fge x twoPi = true ↔ units twoPi ≤ units x := fle_iff (by decide) nan
    rw [inTurn, Bool.and_eq_true, Bool.not_eq_true', ← Bool.not_eq_true, low, high, not_le]
    exact ⟨fun ⟨lo, hi⟩ => ⟨finite lo hi, lo, hi⟩, fun ⟨_, lo, hi⟩ => ⟨lo, hi⟩⟩

/-- The values of the turn are those up to the last one before `TWO_PI`. -/
theorem inTurn_iff_fromZeroTo (x : F) :
    inTurn x = true ↔ FromZeroTo (magUnits (withSign false lastPhase)) x := by
  rw [inTurn_iff, FromZeroTo]
  refine ⟨fun ⟨finite, lo, hi⟩ => ⟨finite, lo, ?_⟩, fun ⟨finite, lo, hi⟩ => ⟨finite, lo, ?_⟩⟩
  · have below : x.toNat % 2 ^ 31 ≤ lastPhase := by
      by_contra above
      have step : twoPi.toNat % 2 ^ 31 = lastPhase + 1 := by decide
      have := magUnits_le (x := twoPi) (y := x) (by omega)
      rw [← natAbs_units, ← natAbs_units] at this
      omega
    have le : magUnits x ≤ magUnits (withSign false lastPhase) :=
      magUnits_le (by rwa [toNat_mod_withSign (by decide)])
    rw [← natAbs_units] at le
    omega
  · rw [units_twoPi]
    rw [magUnits_lastPhase] at hi
    omega

/-! ### The wrapped sum (R138, R139) -/

/-- The last place of a value from `TWO_PI` on is no smaller than that of `TWO_PI`, so what is left up to twice
`TWO_PI` has 24 bits and is exact. -/
theorem representable_sub_twoPi {y : F} (lo : units twoPi ≤ units y)
    (hi : units y ≤ (2 * (0xC90FDA * 2 ^ 128) : Nat)) :
    Representable (units y - units twoPi).natAbs := by
  have magnitude := natAbs_units y
  rw [units_twoPi] at lo ⊢
  have grid := magUnits_grid (y.toNat % 2 ^ 31) 128 (Nat.mod_lt _ (by decide)) false
  rw [magUnits_pattern] at grid
  rcases grid with small | ⟨w, hw⟩
  · omega
  · have rest : (units y - 0xC90FDB * 2 ^ 128).natAbs = (w - 0xC90FDB) * 2 ^ 128 := by omega
    rw [rest]
    exact representable_mul_two_pow (by omega) (by decide)

/-- The wrap of a value up to twice the last phase. -/
theorem inTurn_wrap {s : State} (num : s.cfg.num = .binary32) {y : F}
    (h : FromZeroTo (magUnits (withSign false (lastPhase + 2 ^ 23))) y) : inTurn (s.wrap y) = true := by
  obtain ⟨finite, lo, hi⟩ := h
  have reaches : fge y twoPi = true ↔ units twoPi ≤ units y :=
    fle_iff (by decide) (isNaN_of_isFinite finite)
  rw [State.wrap, State.fge_default num, State.fsub_default num, inTurn_iff]
  split
  next above =>
    rw [reaches] at above
    rw [magUnits_twice_lastPhase] at hi
    obtain ⟨finite', value⟩ := fsub_exact finite (show isFinite twoPi = true by decide)
      (representable_sub_twoPi above hi)
    refine ⟨finite', ?_⟩
    rw [value]
    rw [units_twoPi] at above ⊢
    omega
  next below =>
    rw [reaches, not_le] at below
    exact ⟨finite, lo, below⟩

/-- Settles O51: the sum is at most twice the last value before `TWO_PI`, which is a value, so the rounded sum is
too; from `TWO_PI` on the subtraction is exact. -/
theorem wrappedPhaseStaysInTheTurn : Obligations.WrappedPhaseStaysInTheTurn := by
  intro s x inc num hx hinc
  obtain ⟨xFinite, xLo, xHi⟩ := (inTurn_iff_fromZeroTo x).mp hx
  obtain ⟨incFinite, incLo, incHi⟩ := (inTurn_iff_fromZeroTo inc).mp hinc
  rw [magUnits_lastPhase] at xHi incHi
  rw [State.fadd_default num]
  refine inTurn_wrap num (fromZeroTo_fadd xFinite incFinite (by decide) (by omega) ?_)
  rw [magUnits_twice_lastPhase]
  omega

/-! ### The increment of the low-frequency oscillator (R137, R190, R195) -/

/-- A quotient of values without a sign that is at most the last phase. -/
theorem inTurn_fdiv {a b : F} (finite : isFinite a = true) (number : isNaN b = false)
    (sign : signBit a = signBit b) (pos : 0 < magUnits b)
    (h : magUnits a * oneUnits ≤ magUnits b * magUnits (withSign false lastPhase)) : inTurn (fdiv a b) = true := by
  have nonzero : isZero b = false := Bool.eq_false_iff.mpr fun zero => by
    rw [magUnits_of_isZero zero] at pos
    omega
  rw [inTurn_iff_fromZeroTo, fdiv, sign, bne_self_eq_false]
  simp only [isNaN_of_isFinite finite, isInf_of_isFinite finite, number, nonzero, Bool.or_self, Bool.false_eq_true,
    if_false]
  split
  · exact fromZeroTo_zero _ false
  · exact fromZeroTo_roundUnits pos (by decide) h

/-- The rounded sample rate is at least 4.0 when the rate is. -/
theorem four_le_i2f {n : Nat} (h : 4 ≤ n) : 4 * oneUnits ≤ magUnits (i2f n) ∧ signBit (i2f n) = false := by
  have nonneg : decide ((n : Int) < 0) = false := decide_eq_false (by omega)
  have four : magUnits (withSign false 0x40800000) = 4 * oneUnits := by decide +kernel
  have pattern : 0x40800000 ≤ roundMag ((n : Int).natAbs * oneUnits) 1 := by
    apply le_roundMag_of_le Nat.one_pos (by decide)
    rw [four, Nat.one_mul, Int.natAbs_natCast]
    exact Nat.mul_le_mul_right _ h
  rw [i2f, nonneg, signBit_roundUnits, ← four]
  have := roundMag_le ((n : Int).natAbs * oneUnits) 1
  exact ⟨magUnits_withSign_le pattern (by omega), rfl⟩

/-- Three turns over at least four frames are less than one. -/
theorem inTurn_phaseInc_fLfo {s : State} (num : s.cfg.num = .binary32) (rate : 3 < s.cfg.sr) :
    inTurn (s.phaseInc fLfo) = true := by
  obtain ⟨large, sign⟩ := four_le_i2f rate
  have turns : isFinite (fmul twoPi fLfo) = true ∧ signBit (fmul twoPi fLfo) = false ∧
      magUnits (fmul twoPi fLfo) ≤ 4 * magUnits (withSign false lastPhase) := by decide +kernel
  obtain ⟨finite, turnsSign, turnsLe⟩ := turns
  rw [State.phaseInc, State.fdiv_default num, State.fmul_default num, State.i2f_default num]
  refine inTurn_fdiv finite (isNaN_i2f _) (turnsSign.trans sign.symm)
    ((Nat.mul_pos (by decide) oneUnits_pos).trans_le large) ?_
  calc magUnits (fmul twoPi fLfo) * oneUnits
    _ ≤ 4 * magUnits (withSign false lastPhase) * oneUnits := Nat.mul_le_mul_right _ turnsLe
    _ = 4 * oneUnits * magUnits (withSign false lastPhase) := Nat.mul_right_comm ..
    _ ≤ magUnits (i2f s.cfg.sr) * magUnits (withSign false lastPhase) := Nat.mul_le_mul_right _ large

/-! ### What a step does to the phases -/

theorem State.writeTxn_ph (s : State) (a : Addr) (d : Data) : (s.writeTxn a d).ph = s.ph := by
  rcases s.writeTxn_cases a d with e | ⟨u, effect, e⟩
  · rw [e, State.refuse_ph]
  · rw [e, State.accept_ph]
    cases effect with
    | status => exact State.ackStatus_ph s d
    | _ => rfl

theorem State.readTxn_ph (s : State) (a : Addr) : (s.readTxn a).ph = s.ph := by
  rcases s.readTxn_cases a with e | ⟨v, e⟩
  · rw [e, State.refuse_ph]
  · rw [e, State.accept_ph]

/-- A stage leaves the phases alone when it is off, and leaves them to its body when it is on. -/
theorem runStage_ph {s t : State} {bit flag : Nat} {ds : List (Fin 10)} {next : UopCode} {body : State → State}
    (h : s.runStage bit ds flag next body = .next t) : t.ph = s.ph ∨ t.ph = (body s).ph := by
  obtain ⟨rfl, -⟩ := State.runStage_next h
  cases on : s.enabled bit with
  | true => exact .inr (by rw [State.stage_on on, State.setSidx_ph, State.check_ph])
  | false => exact .inl (by rw [State.stage_off on, State.setSidx_ph])

theorem State.linesWriteAdv_ph (s : State) (ds : List (Fin 10)) (v : F) : (s.linesWriteAdv ds v).ph = s.ph := by
  rw [State.linesWriteAdv_others]

theorem State.reverbBody_ph (s : State) : s.reverbBody.ph = s.ph :=
  State.linesWriteAdv_ph (s.addBoth _) [1, 2, 3, 4, 5] _

/-- The chorus advances its own three phases alone (R180). -/
theorem State.chorusBody_phase (s : State) {q : Fin 5} (lfo : 3 ≤ q.val) : s.chorusBody.phase q = s.phase q := by
  have other {p : Fin 5} (hp : p.val < 3) : q ≠ p := by
    rintro rfl
    omega
  rw [State.chorusBody, State.phase_phaseAdv, if_neg (other (by decide)), State.phase_phaseAdv,
    if_neg (other (by decide)), State.phase_phaseAdv, if_neg (other (by decide))]
  exact State.phase_congr (State.linesWriteAdv_ph (s.addBoth s.chorusOut) [6, 7, 8] s.dry) q

/-- The phase after one advance by the low-frequency oscillator (R190, R195). -/
def State.advancedPhase (s : State) (q : Fin 5) : F := s.wrap (s.fadd (s.phase q) (s.phaseInc fLfo))

/-- The phase `q` is as it was, or has been advanced once. -/
def KeptOrAdvanced (q : Fin 5) (s t : State) : Prop := t.phase q = s.phase q ∨ t.phase q = s.advancedPhase q

theorem keptOrAdvanced_of_ph {s t : State} (h : t.ph = s.ph) (q : Fin 5) : KeptOrAdvanced q s t :=
  .inl (State.phase_congr h q)

theorem keptOrAdvanced_of_runStage {s t : State} {bit flag : Nat} {ds : List (Fin 10)} {next : UopCode}
    {body : State → State} {q : Fin 5} (effect : KeptOrAdvanced q s (body s))
    (h : s.runStage bit ds flag next body = .next t) : KeptOrAdvanced q s t := by
  rcases runStage_ph h with off | on
  · exact keptOrAdvanced_of_ph off q
  · rwa [KeptOrAdvanced, State.phase_congr on q]

/-- A modulator advances one phase and no other. -/
theorem keptOrAdvanced_phaseAdv (s : State) (m : F) (p q : Fin 5) :
    KeptOrAdvanced q s ((s.scaleBoth m).phaseAdv p fLfo) := by
  rw [KeptOrAdvanced, State.phase_phaseAdv]
  split
  · subst q
    exact .inr rfl
  · exact .inl rfl

/-- An operation leaves a phase of the modulators as it is or advances it once. -/
theorem exec_keptOrAdvanced {i : Instr} {s t : State} (h : exec i s = .next t) {q : Fin 5} (lfo : 3 ≤ q.val) :
    KeptOrAdvanced q s t := by
  cases micro : isMicroOp i with
  | false =>
    rcases exec_transaction micro s with ⟨a, d, e⟩ | ⟨a, e⟩
    · obtain rfl := Host.Outcome.next.inj (e.symm.trans h)
      exact keptOrAdvanced_of_ph (s.writeTxn_ph a d) q
    · obtain rfl := Host.Outcome.next.inj (e.symm.trans h)
      exact keptOrAdvanced_of_ph (s.readTxn_ph a) q
  | true =>
    cases i with
    | load => exact keptOrAdvanced_of_ph (by rw [execLoad_next h, State.loadOp_ph]) q
    | vol =>
      obtain rfl := Host.Outcome.next.inj h
      exact keptOrAdvanced_of_ph (by rw [State.volOp, State.setSidx_ph, State.check_ph, State.setAcc_ph]) q
    | echo => exact keptOrAdvanced_of_runStage (.inl rfl) h
    | reverb => exact keptOrAdvanced_of_runStage (keptOrAdvanced_of_ph s.reverbBody_ph q) h
    | chorus => exact keptOrAdvanced_of_runStage (.inl (s.chorusBody_phase lfo)) h
    | vibrato => exact keptOrAdvanced_of_runStage (keptOrAdvanced_phaseAdv s _ 3 q) h
    | tremolo => exact keptOrAdvanced_of_runStage (keptOrAdvanced_phaseAdv s _ 4 q) h
    | stereo => exact keptOrAdvanced_of_runStage (.inl rfl) h
    | store => exact keptOrAdvanced_of_ph (by rw [execStore_next h, State.storeOp_ph]) q
    | norm =>
      obtain ⟨-, b, -, rfl⟩ := execNorm_next h
      exact keptOrAdvanced_of_ph (s.finishBlock_ph b) q
    | _ => cases micro

theorem State.resetNow_phase_lfo (s : State) {q : Fin 5} (lfo : 3 ≤ q.val) : s.resetNow.phase q = 0#32 := by
  have : q = 3 ∨ q = 4 := by omega
  rcases this with rfl | rfl <;> rfl

/-! ### The invariant of the modulators' phases (R139) -/

section
variable {s t : State} (num : s.cfg.num = .binary32) (rate : 3 < s.cfg.sr) {q : Fin 5} (lfo : 3 ≤ q.val)
  (turn : inTurn (s.phase q) = true)
include num rate lfo turn

theorem exec_inTurn_lfo {i : Instr} (run : exec i s = .next t) : inTurn (t.phase q) = true := by
  rcases exec_keptOrAdvanced run lfo with kept | advanced
  · rwa [kept]
  · rw [advanced]
    exact wrappedPhaseStaysInTheTurn s _ _ num turn (inTurn_phaseInc_fLfo num rate)

theorem step_inTurn_lfo (run : step s = .next t) : inTurn (t.phase q) = true := by
  rcases step_next run with ⟨_, rest, -, txn⟩ | ⟨_, -, rfl⟩ | ⟨_, -, -, rfl⟩ | ⟨rest, _, -, -, -, micro⟩
  · exact exec_inTurn_lfo (s := s.withEvents rest) num rate lfo turn txn
  · rw [State.resetNow_phase_lfo _ lfo]
    decide +kernel
  · exact turn
  · exact exec_inTurn_lfo (s := s.withEvents rest) num rate lfo turn micro

end

/-- Settles O52: a step leaves each of the two phases as it is, zeroes it, or advances it by less than a turn. -/
theorem lowFrequencyPhasesStayInTheTurn : Obligations.LowFrequencyPhasesStayInTheTurn :=
  fun _ _ num rate vibrato tremolo run =>
    ⟨step_inTurn_lfo num rate (by decide) vibrato run, step_inTurn_lfo num rate (by decide) tremolo run⟩

end Sys2Proof.Machine

/-! Frame entry and volume (R150, R151). -/

namespace Sys2Proof.Machine

theorem exec_load_inside {s : State} (inside : s.fidx.toNat < s.cfg.blockMax) : exec .load s = .next s.loadOp :=
  if_pos inside

theorem exec_store_inside {s : State} (inside : s.fidx.toNat < s.cfg.blockMax) : exec .store s = .next s.storeOp :=
  if_pos inside

/-- Settles O32: the frame exists, so LOAD latches it. -/
theorem loadLatchesTheFrameAndItsDownmix : Obligations.LoadLatchesTheFrameAndItsDownmix :=
  fun _ inside => exec_load_inside inside

/-- Settles O33: the check writes bit 0 of `DIAG` and nothing else. -/
theorem volumeScalesTheInput : Obligations.VolumeScalesTheInput := by
  intro s
  have vol : exec .vol s = .next s.volOp := rfl
  rw [vol, State.volOp, State.check_eq]
  rfl

end Sys2Proof.Machine

/-! The frames of a block on the engine's own turns (R81, R236, R239): where the engine stands before each step, and
the steps of the frames as one function. -/

namespace Sys2Proof.Machine

/-! ### Runs -/

theorem run_add {M : Host.Core} {j k : Nat} {s t : M.State} (h : M.run j s = .next t) :
    M.run (j + k) s = M.run k t := by
  induction j generalizing s with
  | zero =>
    obtain rfl := Host.Outcome.next.inj h
    rw [Nat.zero_add]
  | succ j ih =>
    obtain ⟨u, first, rest⟩ := run_succ_next_iff.mp h
    rw [Nat.succ_add, Host.Core.run, first]
    exact ih rest

theorem run_one {M : Host.Core} (s : M.State) : M.run 1 s = M.step s := by
  rw [Host.Core.run]
  cases M.step s <;> rfl

/-! ### Where the engine stands (R38, R236) -/

/-- The engine is busy at code `c` and frame `f` of a block of `n` frames, and no turn is listed, so that the steps
to come are its own (log entry 2). -/
structure State.Engaged (s : State) (c : UopCode) (f n : BitVec 11) : Prop where
  inv : s.Inv
  busy : s.busy = true
  turns : s.events = []
  code : s.sidx = c
  frame : s.fidx = f
  frames : s.nf = n

/-- The position at the start of frame `f` of a block of `n` frames: LOAD, or NORM when no frame is left. -/
def State.AtFrame (s : State) (f n : BitVec 11) : Prop := s.Engaged (if f = n then 9#4 else 0#4) f n

theorem exec_microOp_events {i : Instr} {s t : State} (micro : isMicroOp i = true) (h : exec i s = .next t) :
    t.events = s.events := by
  cases exec_microOp micro h with
  | sound _ _ step => rw [step.frame]
  | load | store | norm => rfl

/-- A stage runs when every cursor stands inside its line. -/
theorem State.Inv.runStage_runs {s : State} (inv : s.Inv) {bit flag : Nat} {ds : List (Fin 10)} {next : UopCode}
    {body : State → State} : s.runStage bit ds flag next body = .next (s.stage bit flag next body) :=
  State.runStage_runs (fun _ => (s.cursorsInside_iff ds).mpr fun d _ => inv.cursors d) flag next body

namespace State.Engaged

variable {s t : State} {c : UopCode} {f n : BitVec 11} {i : Instr} (h : s.Engaged c f n)
include h

theorem step_eq (named : decodeUop c = some i) : step s = exec i s := by
  have same : s.withEvents [] = s := by
    rw [← h.turns]
    rfl
  rw [step_engine_busy (.inl ⟨h.turns, rfl⟩) h.busy (h.code ▸ named), same]

/-- Whatever the operation of the code leaves, the engine still has the turn there and the invariant holds. -/
theorem keeps (named : decodeUop c = some i) (run : exec i s = .next t) :
    step s = .next t ∧ t.Inv ∧ t.events = [] := by
  have turn : step s = .next t := (h.step_eq named).trans run
  have micro : isMicroOp i = true := by rw [isMicroOp, encodeWord_of_decodeUop named]
  exact ⟨turn, everyStepKeepsTheInvariant s t h.inv turn, (exec_microOp_events micro run).trans h.turns⟩

/-- Codes 0 to 7 move on to the next code of the same frame. -/
theorem advance (named : decodeUop c = some i) (low : c.toNat ≤ 7) (run : exec i s = .next t) :
    step s = .next t ∧ t.Engaged (c + 1#4) f n := by
  obtain ⟨turn, inv, turns⟩ := h.keeps named run
  obtain ⟨frames, moves, -⟩ := sequencerMovesInItsFixedOrder s t [] (.inl h.turns) h.busy turn
  obtain ⟨code, frame, busy⟩ := moves (h.code ▸ low)
  exact ⟨turn, inv, busy, turns, h.code ▸ code, frame.trans h.frame, frames.trans h.frames⟩

/-- Code 8 moves on to the next frame. -/
theorem advanceFrame (store : c = 8#4) (run : exec .store s = .next t) :
    step s = .next t ∧ t.AtFrame (f + 1#11) n := by
  subst store
  obtain ⟨turn, inv, turns⟩ := h.keeps rfl run
  obtain ⟨frames, -, moves, -⟩ := sequencerMovesInItsFixedOrder s t [] (.inl h.turns) h.busy turn
  obtain ⟨frame, busy, code⟩ := moves h.code
  rw [h.frame, h.frames] at code
  exact ⟨turn, inv, busy, turns, code, h.frame ▸ frame, frames.trans h.frames⟩

/-- Before NORM the position is a frame of the block. -/
theorem frame_lt (notNorm : c ≠ 9#4) : f.toNat < n.toNat := by
  obtain ⟨-, inside⟩ := h.inv.insideFrame h.busy (h.code ▸ notNorm)
  rwa [h.frame, h.frames] at inside

theorem frame_inside (notNorm : c ≠ 9#4) : s.fidx.toNat < s.cfg.blockMax := by
  have size := h.inv.nfLe
  rw [h.frames] at size
  rw [h.frame]
  exact (h.frame_lt notNorm).trans_le size

end State.Engaged

/-! ### The frames of the block (R239) -/

theorem toNat_next_frame {f : BitVec 11} (room : f.toNat < 2047) : (f + 1#11).toNat = f.toNat + 1 :=
  BitVec.toNat_add_of_lt (Nat.succ_lt_succ room)

/-- The nine steps of a frame are the frame as one function. -/
theorem run_frame {s : State} {f n : BitVec 11} (h : s.Engaged 0#4 f n) :
    Host.Core.run core 9 s = .next s.frameOp ∧ s.frameOp.AtFrame (f + 1#11) n := by
  obtain ⟨load, atVol⟩ := h.advance rfl (by decide) (exec_load_inside (h.frame_inside (by decide)))
  obtain ⟨vol, atEcho⟩ := atVol.advance (i := .vol) rfl (by decide) rfl
  obtain ⟨echo, atReverb⟩ := atEcho.advance (i := .echo) rfl (by decide) atEcho.inv.runStage_runs
  obtain ⟨reverb, atChorus⟩ := atReverb.advance (i := .reverb) rfl (by decide) atReverb.inv.runStage_runs
  obtain ⟨chorus, atVibrato⟩ := atChorus.advance (i := .chorus) rfl (by decide) atChorus.inv.runStage_runs
  obtain ⟨vibrato, atTremolo⟩ := atVibrato.advance (i := .vibrato) rfl (by decide) atVibrato.inv.runStage_runs
  obtain ⟨tremolo, atStereo⟩ := atTremolo.advance (i := .tremolo) rfl (by decide) atTremolo.inv.runStage_runs
  obtain ⟨stereo, atStore⟩ := atStereo.advance (i := .stereo) rfl (by decide) atStereo.inv.runStage_runs
  obtain ⟨store, next⟩ := atStore.advanceFrame rfl (exec_store_inside (atStore.frame_inside (by decide)))
  have goOn {k : Nat} {t u v : State} (first : step t = .next u) (rest : Host.Core.run core k u = .next v) :
      Host.Core.run core (k + 1) t = .next v := run_succ_next_iff.mpr ⟨u, first, rest⟩
  exact ⟨goOn load (goOn vol (goOn echo (goOn reverb (goOn chorus (goOn vibrato (goOn tremolo (goOn stereo
    (goOn store rfl)))))))), next⟩

/-- The steps of the frames that are left are these frames as one function, and what every frame keeps holds at
NORM: by induction on the number of frames left. -/
theorem run_framesOp {P : State → Prop} {n : BitVec 11}
    (keeps : ∀ t f, t.Engaged 0#4 f n → P t → P t.frameOp) (k : Nat) {s : State} {f : BitVec 11}
    (start : s.AtFrame f n) (left : n.toNat - f.toNat = k) (holds : P s) :
    Host.Core.run core (9 * k) s = .next (State.framesOp k s) ∧
      (State.framesOp k s).Engaged 9#4 n n ∧ P (State.framesOp k s) := by
  induction k generalizing s f with
  | zero =>
    have le : f.toNat ≤ n.toNat := start.frame ▸ start.frames ▸ start.inv.fidxLe
    obtain rfl : f = n := BitVec.eq_of_toNat_eq (by omega)
    rw [State.AtFrame, if_pos rfl] at start
    exact ⟨rfl, start, holds⟩
  | succ k ih =>
    have more : f ≠ n := by
      rintro rfl
      omega
    rw [State.AtFrame, if_neg more] at start
    obtain ⟨run, next⟩ := run_frame start
    have last := n.isLt
    have succ : (f + 1#11).toNat = f.toNat + 1 := toNat_next_frame (by omega)
    obtain ⟨rest, atNorm, kept⟩ := ih next (by omega) (keeps s f start holds)
    refine ⟨?_, atNorm, kept⟩
    rw [Nat.mul_succ, Nat.add_comm, run_add run]
    exact rest

/-! ### The two ends of the block (R233, R220) -/

/-- START on an idle engine (R233). -/
theorem exec_start_idle {s : State} (idle : s.busy = false) :
    exec .start s = .next (s.startBlock.accept 0#32) := by
  have start : exec .start s = .next (s.writeTxn 0x000#12 1#32) := rfl
  have cmd : hostTarget s.cfg 0x000#12 = .cmd := rfl
  rw [start, State.writeTxn, cmd, idle]
  rfl

/-- START puts the engine at the first frame. -/
theorem atFrame_startBlock {s : State} (inv : s.Inv) (turns : s.events = []) :
    (s.startBlock.accept 0#32).AtFrame 0#11 s.nframes where
  inv := inv.startBlock.accept 0#32
  busy := rfl
  turns := turns
  code := if_congr eq_comm rfl rfl
  frame := rfl
  frames := rfl

/-- NORM at the end of the frames is the last step of the block. -/
theorem State.Engaged.run_norm {s : State} {n : BitVec 11} (h : s.Engaged 9#4 n n) {b : Memory Data}
    (block : s.outBlock? s.fidx.toNat = some b) : Host.Core.run core 1 s = .next (s.finishBlock b) := by
  rw [h.frame, ← h.frames] at block
  exact (run_one (M := core) s).trans ((h.step_eq rfl).trans (execNorm_runs h.inv.nfLe block))

end Sys2Proof.Machine

/-! A block with every stage off and the volume at 1.0 passes through (R153, R223, S1 of spec/95_test_vectors.md). -/

namespace Sys2Proof.Machine

/-! ### Samples through the numerics record (R12 to R15, R21) -/

theorem toInt_sample_bounds (x : Sample) : -32768 ≤ x.toInt ∧ x.toInt < 32768 :=
  ⟨BitVec.le_toInt x, BitVec.toInt_lt⟩

theorem toInt_signExtend_sample (x : Sample) : (x.signExtend 32).toInt = x.toInt :=
  BitVec.toInt_signExtend_of_le (by decide)

section
variable (s : State) (x : Sample)

theorem State.i2f_sample : s.i2f x.toInt = Machine.i2f x.toInt := by
  obtain ⟨lo, hi⟩ := toInt_sample_bounds x
  exact numI2f_short _ (by omega) (by omega)

/-- By 1.0 a sample keeps its value. -/
theorem State.fmul_sample_one : s.fmul (Machine.i2f x.toInt) one = Machine.i2f x.toInt :=
  numMul_one _ fun _ => isNaN_i2f _

/-- A sample is in range (R15). -/
theorem State.oor_sample : s.oor (Machine.i2f x.toInt) = false := by
  obtain ⟨lo, hi⟩ := toInt_sample_bounds x
  have value := (i2f_exact (i := x.toInt) (by omega)).2
  have default : Machine.oor (Machine.i2f x.toInt) = false := by
    rw [← Bool.not_eq_true, oor_iff (isNaN_i2f _), value]
    omega
  rw [State.oor]
  cases s.cfg.num with
  | binary32 => exact default
  | other id => simp [numOor, isShortValue_i2f (i := x.toInt) (by omega) (by omega), default]

/-- A sample quantises to itself, at 32 bits. -/
theorem State.f2i_sample : s.f2i (Machine.i2f x.toInt) = x.signExtend 32 := by
  obtain ⟨lo, hi⟩ := toInt_sample_bounds x
  apply BitVec.eq_of_toInt_eq
  rw [toInt_signExtend_sample]
  exact numF2i_i2f _ (by omega) (by omega)

end

theorem sat16_signExtend (x : Sample) : sat16 (x.signExtend 32) = x := by
  obtain ⟨lo, hi⟩ := toInt_sample_bounds x
  rw [sat16, toInt_signExtend_sample, if_neg (by omega), if_neg (by omega), BitVec.ofInt_toInt]

/-- Only -32768 has a magnitude above the ceiling (R223). -/
theorem toNat_absInt_signExtend_le {x : Sample} (h : x ≠ 0x8000#16) :
    (absInt (x.signExtend 32)).toNat ≤ 32767 := by
  obtain ⟨lo, hi⟩ := toInt_sample_bounds x
  have ne : x.toInt ≠ -32768 := fun e => h (BitVec.eq_of_toInt_eq e)
  rw [absInt, toInt_signExtend_sample, BitVec.toNat_ofNat]
  omega

/-! ### A frame with every stage off and the volume at 1.0 (R153) -/

/-- A frame word as STORE leaves it in `WBUF` when nothing has changed it. -/
def wideFrame (w : Data) : WorkFrame := ((leftSample w).signExtend 32, (rightSample w).signExtend 32)

theorem State.check_inRange {s : State} (left : s.oor s.accL = false) (right : s.oor s.accR = false) (n : Nat) :
    s.check n = s := by
  rw [State.check, left, right]
  rfl

theorem State.volOp_unity {s : State} (unity : s.params.gvol = one) :
    s.volOp = (s.setAcc (Machine.i2f s.inL.toInt) (Machine.i2f s.inR.toInt)).setSidx 2#4 := by
  rw [State.volOp, unity, State.i2f_sample, State.i2f_sample, State.fmul_sample_one, State.fmul_sample_one,
    State.check_inRange]
  · rw [State.setAcc_accL, State.oor_sample]
  · rw [State.setAcc_accR, State.oor_sample]

theorem State.enabled_off {s : State} (off : s.toggle = 0#6) (bit : Nat) : s.enabled bit = false := by
  rw [State.enabled, off, BitVec.getLsbD_zero]

theorem State.setSidx_setSidx (s : State) (c d : UopCode) : (s.setSidx c).setSidx d = s.setSidx d := rfl

theorem State.storeOp_setSidx (s : State) (c : UopCode) : (s.setSidx c).storeOp = s.storeOp := rfl

/-- The six stages, all off, only move the sequencer (R237). -/
theorem State.stages_off {s : State} (off : s.toggle = 0#6) :
    s.echoOp.reverbOp.chorusOp.vibratoOp.tremoloOp.stereoOp = s.setSidx 8#4 := by
  simp only [State.echoOp, State.reverbOp, State.chorusOp, State.vibratoOp, State.tremoloOp, State.stereoOp,
    State.stage_off, State.enabled_off, State.setSidx_toggle, State.setSidx_setSidx, off]

/-- What is left of the frame: its samples go from `BLK` to the accumulators and on to STORE. -/
theorem State.frameOp_unity {s : State} (off : s.toggle = 0#6) (unity : s.params.gvol = one) :
    s.frameOp = (s.loadOp.setAcc (Machine.i2f (leftSample (s.frame s.fidx.toNat)).toInt)
      (Machine.i2f (rightSample (s.frame s.fidx.toNat)).toInt)).storeOp := by
  rw [State.frameOp, State.volOp_unity (s := s.loadOp) unity, State.stages_off, State.storeOp_setSidx,
    State.storeOp_setSidx, State.loadOp_inL, State.loadOp_inR]
  exact off

/-! ### The block on its way through -/

/-- Of a block that started at `u`, the frames before `FIDX` stand in `WBUF` as they came in, none is louder than
the ceiling, and nothing but the latches, the position, `PEAKACC` and `WBUF` has changed. -/
structure State.PassesFrom (u s : State) : Prop where
  kept : s = { u with
    inL := s.inL, inR := s.inR, dry := s.dry, accL := s.accL, accR := s.accR
    sidx := s.sidx, fidx := s.fidx, peakacc := s.peakacc, wbuf := s.wbuf }
  stored : ∀ k, k < s.fidx.toNat → s.workFrame? k = some (wideFrame (u.frame k))
  quiet : s.peakacc.toNat ≤ 32767

namespace State.PassesFrom

variable {u s : State} (h : u.PassesFrom s)
include h

theorem frame_eq (k : Nat) : s.frame k = u.frame k := by
  rw [h.kept]
  rfl

/-- A frame without -32768 joins those before it. -/
theorem frameOp {f n : BitVec 11} (engaged : s.Engaged 0#4 f n) (off : u.toggle = 0#6) (unity : u.params.gvol = one)
    (samples : ∀ k, k < n.toNat → leftSample (u.frame k) ≠ 0x8000#16 ∧ rightSample (u.frame k) ≠ 0x8000#16) :
    u.PassesFrom s.frameOp := by
  have inside : s.fidx.toNat < n.toNat := engaged.frame ▸ engaged.frame_lt (by decide)
  have room : s.fidx.toNat < 2047 := by omega
  obtain ⟨left, right⟩ := samples _ inside
  have off' : s.toggle = 0#6 := by rw [h.kept]; exact off
  have unity' : s.params.gvol = one := by rw [h.kept]; exact unity
  rw [State.frameOp_unity off' unity', h.frame_eq]
  refine ⟨?_, fun k below => ?_, ?_⟩
  · rw [h.kept]
    rfl
  · rw [State.workFrame?_storeOp, State.setAcc_accL, State.setAcc_accR, State.f2i_sample, State.f2i_sample]
    rw [State.storeOp_fidx, State.setAcc_fidx, State.loadOp_fidx, toNat_next_frame room] at below
    split_ifs with here
    · rw [here]
      rfl
    · exact h.stored k (lt_of_le_of_ne (Nat.le_of_lt_succ below) here)
  · rw [State.storeOp_peakacc, toNat_umax, toNat_umax, State.setAcc_accL, State.setAcc_accR, State.f2i_sample,
      State.f2i_sample]
    exact max_le (max_le h.quiet (toNat_absInt_signExtend_le left)) (toNat_absInt_signExtend_le right)

theorem rescales_eq : s.rescales = false := by
  simp [State.rescales, h.quiet]

/-- A quiet frame leaves as it came in (R220). -/
theorem outFrame_wideFrame (w : Data) : s.outFrame (wideFrame w) = w := by
  have sample (x : Sample) : s.outSample (x.signExtend 32) = x := by
    rw [State.outSample, h.rescales_eq]
    exact sat16_signExtend x
  rw [State.outFrame, wideFrame, sample, sample]
  exact packFrame_extractLsb' w

/-- NORM hands the block back unchanged. -/
theorem frame_outBlock {b : Memory Data} (block : s.outBlock? s.fidx.toNat = some b) (k : Nat) :
    Memory.get 0#32 b k = u.frame k := by
  obtain ⟨below, above⟩ := State.outBlock?_spec block
  rcases Nat.lt_or_ge k s.fidx.toNat with before | after
  · obtain ⟨w, entry, out⟩ := below k before
    obtain rfl := Option.some.inj ((h.stored k before).symm.trans entry)
    rw [out, h.outFrame_wideFrame]
  · rw [above k after, h.frame_eq]

end State.PassesFrom

theorem passesFrom_startBlock (s : State) :
    (s.startBlock.accept 0#32).PassesFrom (s.startBlock.accept 0#32) where
  kept := rfl
  stored := fun k below => absurd below (Nat.not_lt_zero k)
  quiet := Nat.zero_le _

/-- Settles O17: the frames pass through one by one, and NORM finds no peak above the ceiling. -/
theorem allStagesOffPassesTheBlockThrough : Obligations.AllStagesOffPassesTheBlockThrough := by
  intro s u inv idle turns off unity samples start
  obtain rfl := Host.Outcome.next.inj ((exec_start_idle idle).symm.trans start)
  obtain ⟨frames, atNorm, passed⟩ := run_framesOp (P := (s.startBlock.accept 0#32).PassesFrom)
    (fun t f engaged passing => passing.frameOp engaged off unity samples) s.nframes.toNat
    (atFrame_startBlock inv turns) (Nat.sub_zero _) (passesFrom_startBlock s)
  obtain ⟨b, block⟩ := State.outBlock?_isSome fun k below => ⟨_, passed.stored k below⟩
  refine ⟨_, (run_add frames).trans (atNorm.run_norm block), passed.frame_outBlock block, passed.rescales_eq, ?_,
    ?_⟩
  · rw [State.finishBlock_scale, State.blockScale, passed.rescales_eq]
    rfl
  · rw [passed.kept]
    exact ⟨rfl, rfl, rfl, rfl⟩

end Sys2Proof.Machine

/-! The multi-tap mixers (R160, R165) as full next states. -/

namespace Sys2Proof.Machine

/-! ### A stage that is on and a stage that is off (R237) -/

section
variable {s : State} {bit : Nat}

theorem State.runStage_on {ds : List (Fin 10)} (on : s.toggle.getLsbD bit = true)
    (inside : ∀ d ∈ ds, s.cursor d < s.lineSize d) (flag : Nat) (next : UopCode) (body : State → State) :
    s.runStage bit ds flag next body = .next (((body s).check flag).setSidx next) := by
  rw [State.runStage_runs fun _ => (s.cursorsInside_iff ds).mpr inside, State.stage_on on]

theorem State.runStage_off (off : s.toggle.getLsbD bit = false) (ds : List (Fin 10)) (flag : Nat) (next : UopCode)
    (body : State → State) : s.runStage bit ds flag next body = .next (s.setSidx next) := by
  have disabled : s.enabled bit = false := off
  rw [State.runStage_runs fun on => absurd (on.symm.trans disabled) (by decide), State.stage_off disabled]

end

/-! ### The lines of a stage that writes one value (R131, R132) -/

section
variable {s t : State} {ds : List (Fin 10)} {v : F} (once : ds.Nodup) (lines : t.dl = (s.linesWriteAdv ds v).dl)
  (cursors : t.cur = (s.linesWriteAdv ds v).cur)
include once lines cursors

theorem State.line_of_written (d : Fin 10) (owned : d ∈ ds) : t.cursor d = (s.cursor d + 1) % s.lineSize d ∧
    ∀ j : Nat, t.lineEntry d j = if j = s.cursor d then v else s.lineEntry d j := by
  rw [State.cursor_congr cursors, State.cursor_linesWriteAdv once, if_pos owned]
  refine ⟨rfl, fun j => ?_⟩
  rw [State.lineEntry_congr lines, State.lineEntry_linesWriteAdv once]
  simp only [owned, true_and]

theorem State.line_of_unwritten (d : Fin 10) (foreign : d ∉ ds) :
    t.cursor d = s.cursor d ∧ ∀ j : Nat, t.lineEntry d j = s.lineEntry d j := by
  rw [State.cursor_congr cursors, State.cursor_linesWriteAdv once, if_neg foreign]
  refine ⟨rfl, fun j => ?_⟩
  rw [State.lineEntry_congr lines, State.lineEntry_linesWriteAdv once, if_neg fun ⟨owned, _⟩ => foreign owned]

end

/-! ### ECHO (R160) -/

/-- Settles O34: the tap at the offset `N[0]` is the entry at the cursor, read before the write. -/
theorem echoAddsTheDelayedDrySignal : Obligations.EchoAddsTheDelayedDrySignal := by
  intro s inside t l r
  have body : s.echoBody = (s.setAcc l r).lineWriteAdv 0 s.dry := by
    rw [State.echoBody, State.lineRead_size inside]
    rfl
  refine ⟨fun on => (State.runStage_on on (List.forall_mem_singleton.mpr inside) ..).trans ?_,
    fun off => State.runStage_off off ..⟩
  rw [body, State.check_eq]
  rfl

/-! ### REVERB (R165) -/

/-- The body of REVERB writes one value into its five lines and the mixed sum into the accumulators. -/
theorem State.reverbBody_eq (s : State) :
    s.reverbBody = (s.linesWriteAdv [1, 2, 3, 4, 5] (s.fadd s.dry (s.fmul s.params.rvFb s.reverbSum))).setAcc
      (s.fadd s.accL (s.fmul gRvMix s.reverbSum)) (s.fadd s.accR (s.fmul gRvMix s.reverbSum)) :=
  State.linesWriteAdv_setAcc ..

/-- Settles O35: the five taps are the entries at the cursors, and the five lines, each named once, take the one
value `w`. -/
theorem reverbFeedsBackOneSum : Obligations.ReverbFeedsBackOneSum := by
  intro s inside tap k sum l r w
  have read (d : Fin 10) (owned : d ∈ [1, 2, 3, 4, 5]) : s.lineRead d (s.lineSize d) = tap d :=
    State.lineRead_size (inside d owned)
  have sum_eq : s.reverbSum = sum := by
    rw [State.reverbSum, read 1 (by decide), read 2 (by decide), read 3 (by decide), read 4 (by decide),
      read 5 (by decide)]
  have body : s.reverbBody = (s.linesWriteAdv [1, 2, 3, 4, 5] w).setAcc l r := by rw [State.reverbBody_eq, sum_eq]
  refine ⟨fun on => ⟨_, State.runStage_on on inside .., ?_, ?_⟩, fun off => State.runStage_off off ..⟩
  · rw [body, State.linesWriteAdv_others, State.check_eq]
    rfl
  · have once : ([1, 2, 3, 4, 5] : List (Fin 10)).Nodup := by decide
    have lines : ((s.reverbBody.check 2).setSidx 4#4).dl = (s.linesWriteAdv [1, 2, 3, 4, 5] w).dl := by
      rw [body, State.setSidx_dl, State.check_dl, State.setAcc_dl]
    have cursors : ((s.reverbBody.check 2).setSidx 4#4).cur = (s.linesWriteAdv [1, 2, 3, 4, 5] w).cur := by
      rw [body, State.setSidx_cur, State.check_cur, State.setAcc_cur]
    exact ⟨State.line_of_written once lines cursors, State.line_of_unwritten once lines cursors⟩

end Sys2Proof.Machine

/-! The three-voice chorus (R180) as a full next state. -/

namespace Sys2Proof.Machine

/-! ### Several phases advanced at one rate (R137) -/

/-- `PH.adv` of several phases at one rate, in order. -/
def State.phasesAdv (s : State) (ps : List (Fin 5)) (f : F) : State := ps.foldl (fun t p => t.phaseAdv p f) s

theorem State.phasesAdv_cons (s : State) (p : Fin 5) (ps : List (Fin 5)) (f : F) :
    s.phasesAdv (p :: ps) f = (s.phaseAdv p f).phasesAdv ps f := rfl

theorem State.phasesAdv_others (s : State) (ps : List (Fin 5)) (f : F) :
    s.phasesAdv ps f = { s with ph := (s.phasesAdv ps f).ph } := by
  induction ps generalizing s with
  | nil => rfl
  | cons p ps ih =>
    rw [State.phasesAdv_cons, ih]
    rfl

/-- A phase named once is advanced once, from the value it had before. -/
theorem State.phase_phasesAdv {s : State} {ps : List (Fin 5)} (once : ps.Nodup) (f : F) (q : Fin 5) :
    (s.phasesAdv ps f).phase q = if q ∈ ps then s.wrap (s.fadd (s.phase q) (s.phaseInc f)) else s.phase q := by
  induction ps generalizing s with
  | nil => rfl
  | cons p ps ih =>
    obtain ⟨fresh, once⟩ := List.nodup_cons.mp once
    rw [State.phasesAdv_cons, ih once, State.phase_phaseAdv]
    by_cases same : q = p
    · subst q
      simp only [fresh, if_false, if_true, List.mem_cons_self]
    · simp only [same, if_false, List.mem_cons, false_or]
      rfl

/-! ### CHORUS (R180) -/

/-- The tap of a voice, at the offset `N[d] mod N[d]`, is the entry at the cursor (R136). -/
theorem State.chorusVoice_eq {s : State} {d : Fin 10} (inside : s.cursor d < s.lineSize d) (p : Fin 5) (weight : F) :
    s.chorusVoice d p weight = s.fmul (s.fmul weight (s.lineEntry d (s.cursor d)))
      (s.fadd chBias (s.fmul s.params.chDepth (s.sin (s.phase p)))) := by
  obtain ⟨tap, -, -⟩ := chorusOffsetIsTheCursor s d inside
  rw [State.chorusVoice, tap]

/-- The body of CHORUS writes the dry sample into its three lines, the mix into the accumulators, and advances its
three phases. -/
theorem State.chorusBody_eq (s : State) :
    s.chorusBody = ((s.linesWriteAdv [6, 7, 8] s.dry).setAcc (s.fadd s.accL s.chorusOut)
      (s.fadd s.accR s.chorusOut)).phasesAdv [0, 1, 2] s.params.chSpeed := by
  rw [← State.linesWriteAdv_setAcc]
  rfl

theorem State.phase_chorusBody (s : State) (q : Fin 5) : s.chorusBody.phase q =
    if q.val < 3 then s.wrap (s.fadd (s.phase q) (s.phaseInc s.params.chSpeed)) else s.phase q := by
  have owned : q ∈ ([0, 1, 2] : List (Fin 5)) ↔ q.val < 3 := by revert q; decide
  rw [State.chorusBody_eq, State.phase_phasesAdv (by decide), State.linesWriteAdv_others]
  simp only [owned]
  rfl

/-- Settles O36: the mix is made from the entries at the cursors and the phases as they stand; then the three lines
take the dry sample and the three phases advance, each named once. -/
theorem chorusMixesThreeModulatedVoices : Obligations.ChorusMixesThreeModulatedVoices := by
  intro s inside tap modulator c o l r inc
  have out : s.chorusOut = o := by
    rw [State.chorusOut, State.chorusVoice_eq (inside 6 (by decide)), State.chorusVoice_eq (inside 7 (by decide)),
      State.chorusVoice_eq (inside 8 (by decide))]
  have body : s.chorusBody =
      ((s.linesWriteAdv [6, 7, 8] s.dry).setAcc l r).phasesAdv [0, 1, 2] s.params.chSpeed := by
    rw [State.chorusBody_eq, out]
  refine ⟨fun on => ⟨_, State.runStage_on on inside .., ?_, ?_⟩, fun off => State.runStage_off off ..⟩
  · rw [body, State.phasesAdv_others, State.linesWriteAdv_others, State.check_eq]
    rfl
  · have once : ([6, 7, 8] : List (Fin 10)).Nodup := by decide
    have lines : ((s.chorusBody.check 3).setSidx 5#4).dl = (s.linesWriteAdv [6, 7, 8] s.dry).dl := by
      rw [body, State.setSidx_dl, State.check_dl, State.phasesAdv_others, State.setAcc_dl]
    have cursors : ((s.chorusBody.check 3).setSidx 5#4).cur = (s.linesWriteAdv [6, 7, 8] s.dry).cur := by
      rw [body, State.setSidx_cur, State.check_cur, State.phasesAdv_others, State.setAcc_cur]
    have phases : ((s.chorusBody.check 3).setSidx 5#4).ph = s.chorusBody.ph := by
      rw [State.setSidx_ph, State.check_ph]
    exact ⟨State.line_of_written once lines cursors, State.line_of_unwritten once lines cursors,
      fun p => (State.phase_congr phases p).trans (s.phase_chorusBody p)⟩

end Sys2Proof.Machine

/-! The envelope modulators VIBRATO (R190) and TREMOLO (R195) as full next states. -/

namespace Sys2Proof.Machine

/-! ### A stage that scales both accumulators and advances one phase (R137, R237) -/

/-- Such a stage owns no delay line, so it needs no cursor inside its line. The check sees the scaled accumulators. -/
theorem State.runStage_modulator {s : State} {bit : Nat} {body : State → State} {m : F} {p : Fin 5}
    (on : s.toggle.getLsbD bit = true) (scales : body s = (s.scaleBoth m).phaseAdv p fLfo) (flag : Nat)
    (next : UopCode) : s.runStage bit [] flag next body = .next { s with
      accL := s.fmul s.accL m, accR := s.fmul s.accR m, sidx := next
      ph := s.ph.set p (s.wrap (s.fadd (s.phase p) (s.fdiv (s.fmul twoPi fLfo) (s.i2f s.cfg.sr))))
      diag := if s.oor (s.fmul s.accL m) || s.oor (s.fmul s.accR m) then s.diag ||| (1#7 <<< flag) else s.diag } := by
  rw [State.runStage_on on (List.forall_mem_nil _), scales, State.check_eq]
  rfl

/-! ### VIBRATO (R190) -/

/-- Settles O37: the factor is made from phase 3 as it stands before the advance; the flag is bit 4 of `DIAG`. -/
theorem vibratoModulatesTheAccumulators : Obligations.VibratoModulatesTheAccumulators := by
  intro s m l r
  have scales : s.vibratoBody = (s.scaleBoth m).phaseAdv 3 fLfo := rfl
  exact ⟨fun on => State.runStage_modulator on scales 4 6#4, fun off => State.runStage_off off ..⟩

/-! ### TREMOLO (R195) -/

/-- Settles O38: the factor is made from phase 4 as it stands before the advance; the flag is bit 5 of `DIAG`. -/
theorem tremoloModulatesTheAccumulators : Obligations.TremoloModulatesTheAccumulators := by
  intro s m l r
  have scales : s.tremoloBody = (s.scaleBoth m).phaseAdv 4 fLfo := rfl
  exact ⟨fun on => State.runStage_modulator on scales 5 7#4, fun off => State.runStage_off off ..⟩

end Sys2Proof.Machine

/-! The stereo widener (R200): subtracting a product is adding the product with the negated factor, and STEREO as a full
next state. -/

namespace Sys2Proof.Machine

/-! ### The negated value (R10) -/

@[simp] theorem expField_negate (x : F) : expField (negate x) = expField x := by
  rw [negate, expField_withSign (Nat.mod_lt _ (by decide)), expField]
  omega

@[simp] theorem fracField_negate (x : F) : fracField (negate x) = fracField x := by
  rw [negate, fracField_withSign (Nat.mod_lt _ (by decide)), fracField]
  omega

@[simp] theorem isNaN_negate (x : F) : isNaN (negate x) = isNaN x := by
  rw [isNaN, isNaN, expField_negate, fracField_negate]

@[simp] theorem isInf_negate (x : F) : isInf (negate x) = isInf x := by
  rw [isInf, isInf, expField_negate, fracField_negate]

@[simp] theorem magUnits_negate (x : F) : magUnits (negate x) = magUnits x := magUnits_pattern x _

theorem isZero_negate_eq (x : F) : isZero (negate x) = isZero x := by
  rw [isZero, isZero, negate, toNat_mod_withSign (Nat.mod_lt _ (by decide))]

theorem negate_withSign {p : Nat} (hp : p < 2 ^ 31) (neg : Bool) : negate (withSign neg p) = withSign (!neg) p := by
  rw [negate, signBit_withSign hp, toNat_mod_withSign hp]

theorem negate_infinity (neg : Bool) : negate (infinity neg) = infinity (!neg) := negate_withSign (by decide) neg

theorem negate_roundUnits (neg : Bool) (n d : Nat) : negate (roundUnits neg n d) = roundUnits (!neg) n d :=
  negate_withSign (Nat.lt_of_le_of_lt (roundMag_le n d) (by decide)) neg

/-! ### Signs through a product and a difference (R11) -/

/-- The product with the first factor negated is the negated product, unless it is a NaN, whose sign R11 leaves free. -/
theorem fmul_negate_left {a b : F} (number : isNaN (fmul a b) = false) : fmul (negate a) b = negate (fmul a b) := by
  simp only [fmul, isNaN_negate, isInf_negate, isZero_negate_eq, magUnits_negate, signBit_negate, Bool.not_bne] at number ⊢
  cases nan : isNaN a || isNaN b with
  | true => simp [nan] at number
  | false =>
    cases inf : isInf a || isInf b with
    | false => simp only [Bool.false_eq_true, if_false, negate_roundUnits]
    | true =>
      cases zero : isZero a || isZero b with
      | true => simp [nan, inf, zero] at number
      | false => simp only [Bool.false_eq_true, if_true, if_false, negate_infinity]

/-- A sum that is a number does not depend on what is kept to name the free NaN. -/
theorem addNumbers_of_number {op : NumOp} {a b x y : F} (number : isNaN (addNumbers op a b x y) = false)
    (op' : NumOp) (a' b' : F) : addNumbers op' a' b' x y = addNumbers op a b x y := by
  cases inf : isInf x with
  | false => simp only [addNumbers, inf, Bool.false_eq_true, if_false]
  | true =>
    cases opposed : isInf y && signBit x != signBit y with
    | true => simp [addNumbers, inf, opposed] at number
    | false => simp only [addNumbers, inf, opposed, Bool.false_eq_true, if_true, if_false]

/-- A difference that is a number is the sum with the second operand negated. -/
theorem fsub_eq_fadd_negate {a b : F} (number : isNaN (fsub a b) = false) : fsub a b = fadd a (negate b) := by
  cases nan : isNaN a || isNaN b with
  | true => simp [fsub, nan] at number
  | false =>
    simp only [fsub, fadd, isNaN_negate, nan, Bool.false_eq_true, if_false] at number ⊢
    exact (addNumbers_of_number number ..).symm

/-- Settles O60: the factor −0.5 is 0.5 negated, and the negation goes out of the product and into the difference. -/
theorem subtractingIsAddingTheNegatedProduct : Obligations.SubtractingIsAddingTheNegatedProduct := by
  intro a x number
  have product : isNaN (fmul 0x3F000000#32 x) = false := by
    by_contra nan
    rw [fsub_nan (.inr (by simpa using nan))] at number
    exact absurd number (by decide)
  have factor : (0xBF000000#32 : F) = negate 0x3F000000#32 := by decide
  rw [factor, fmul_negate_left product]
  exact fsub_eq_fadd_negate number

/-! ### STEREO (R200) -/

/-- Settles O39: the tap at the offset `N[9]` is the entry at the cursor, read before the write. -/
theorem widenerAddsLeftAndSubtractsRight : Obligations.WidenerAddsLeftAndSubtractsRight := by
  intro s inside t l r
  have body : s.stereoBody = (s.setAcc l r).lineWriteAdv 9 s.dry := by
    rw [State.stereoBody, State.lineRead_size inside]
  refine ⟨fun on => (State.runStage_on on (List.forall_mem_singleton.mpr inside) ..).trans ?_,
    fun off => State.runStage_off off ..⟩
  rw [body, State.check_eq]
  rfl

end Sys2Proof.Machine

/-! Quantisation, the peak and the rescaled block (R215, R220, R222). -/

namespace Sys2Proof.Machine

/-! ### STORE (R215) -/

theorem toNat_absInt (i : BitVec 32) : (absInt i).toNat = i.toInt.natAbs := by
  have lo := i.le_toInt
  have hi := i.toInt_lt
  rw [absInt, BitVec.toNat_ofNat]
  omega

/-- Settles O41: the entry exists, and the maximum is taken twice, over the two magnitudes. -/
theorem storeQuantisesAndTracksThePeak : Obligations.StoreQuantisesAndTracksThePeak := by
  intro s inside
  refine ⟨s.storeOp, exec_store_inside inside, rfl, s.workFrame?_storeOp, ?_⟩
  rw [State.storeOp_peakacc, toNat_umax, toNat_umax, toNat_absInt, toNat_absInt]

/-! ### NORM (R220) -/

theorem State.blockScale_eq (s : State) : s.blockScale =
    if 32767 < s.peakacc.toNat then s.fdiv ceiling (s.u2f s.peakacc.toNat) else one := by
  simp only [State.blockScale, State.rescales, decide_eq_true_eq]

/-- A sample leaves by the one factor, or as it is. -/
theorem State.outSample_eq (s : State) (w : BitVec 32) : s.outSample w = sat16
    (if 32767 < s.peakacc.toNat then s.f2i (s.fmul (s.i2f w.toInt) (s.fdiv ceiling (s.u2f s.peakacc.toNat)))
      else w) := by
  simp only [State.outSample, State.blockScale_eq, State.rescales, decide_eq_true_eq]
  split_ifs <;> rfl

/-- Settles O42: every frame below `NF` has been stored, so there is a block to hand back, and it has its first `NF`
frames from `WBUF`. -/
theorem normRescalesTheWholeBlock : Obligations.NormRescalesTheWholeBlock := by
  intro s size stored sc rescaled
  obtain ⟨b, block⟩ := State.outBlock?_isSome stored
  obtain ⟨below, above⟩ := State.outBlock?_spec block
  refine ⟨s.finishBlock b, execNorm_runs size block, ?_, ?_, above⟩
  · rw [State.finishBlock, State.blockScale_eq]
    rfl
  · intro k w inside entry
    obtain ⟨w', entry', out⟩ := below k inside
    obtain rfl := Option.some.inj (entry.symm.trans entry')
    refine out.trans ?_
    rw [State.outFrame, packFrame, State.outSample_eq, State.outSample_eq]
    split_ifs <;> rfl

/-! ### The rounding keeps the order, and its relative error (R11) -/

/-- The rounding keeps the order: if the results crossed, `n` would lie at or above their midpoint and `m` at or
below. -/
theorem roundMag_mono {n m d : Nat} (hd : 0 < d) (finite : roundMag n d < 0x7F800000) (le : n ≤ m) :
    roundMag n d ≤ roundMag m d := by
  rcases Nat.eq_or_lt_of_le le with rfl | lt
  · exact le_rfl
  · by_contra crossed
    have above : roundMag m d < roundMag n d := Nat.lt_of_not_le crossed
    obtain ⟨nearN, -⟩ := roundMag_nearest hd finite (show roundMag m d < 2 ^ 31 by omega) false
    obtain ⟨nearM, -⟩ := roundMag_nearest hd (above.trans finite) (show roundMag n d < 2 ^ 31 by omega) false
    have apart := Nat.mul_lt_mul_of_pos_left (magUnits_withSign_lt above (by omega)) hd
    unfold distance at nearN nearM
    omega

theorem magUnits_roundUnits (neg : Bool) (n d : Nat) :
    magUnits (roundUnits neg n d) = magUnits (withSign false (roundMag n d)) := by
  have := roundMag_le n d
  rw [roundUnits, ← magUnits_pattern (withSign neg _) false, toNat_mod_withSign (by omega)]

/-- At `2^23` units or more the rounding adds at most one part in `2^23`. -/
theorem magUnits_roundUnits_relative {n d : Nat} (hd : 0 < d) (normal : 2 ^ 23 * d ≤ n)
    (finite : roundMag n d < 0x7F800000) (neg : Bool) :
    2 ^ 23 * (d * magUnits (roundUnits neg n d)) ≤ (2 ^ 23 + 1) * n := by
  rw [magUnits_roundUnits, magUnits_roundMag finite]
  have step : 0 < d * 2 ^ roundShift n d := Nat.mul_pos hd (Nat.two_pow_pos _)
  have large : 2 ^ 23 ≤ n / (d * 2 ^ roundShift n d) := by
    rcases (roundShift_quotient n d).2 with unshifted | large
    · rwa [unshifted, pow_zero, Nat.mul_one, Nat.le_div_iff_mul_le hd]
    · exact large
  have lastPlace : 2 ^ 23 * (d * 2 ^ roundShift n d) ≤ n := (Nat.le_div_iff_mul_le step).mp large
  have kept : d * 2 ^ roundShift n d * roundKept n d ≤ n + d * 2 ^ roundShift n d :=
    calc d * 2 ^ roundShift n d * roundKept n d
      _ ≤ d * 2 ^ roundShift n d * (n / (d * 2 ^ roundShift n d) + 1) := Nat.mul_le_mul_left _ (nearestEven_le ..)
      _ ≤ n + d * 2 ^ roundShift n d := by
        rw [Nat.mul_add_one]
        exact Nat.add_le_add_right (Nat.mul_div_le ..) _
  have regroup : d * (roundKept n d * 2 ^ roundShift n d) = d * 2 ^ roundShift n d * roundKept n d := by ring
  rw [regroup]
  omega

/-- The quotient of two finite values, the second not zero. -/
theorem fdiv_finite {x y : F} (hx : isFinite x = true) (hy : isFinite y = true) (pos : 0 < magUnits y) :
    fdiv x y = roundUnits (signBit x != signBit y) (magUnits x * oneUnits) (magUnits y) := by
  have nonzero : isZero y = false := Bool.eq_false_iff.mpr fun zero => by
    rw [magUnits_of_isZero zero] at pos
    omega
  simp [fdiv, isNaN_of_isFinite hx, isNaN_of_isFinite hy, isInf_of_isFinite hx, isInf_of_isFinite hy, nonzero]

/-! ### Integers of 32 bits (R12) -/

theorem magUnits_two_pow_31 : magUnits (withSign false 0x4F000000) = 2 ^ 31 * oneUnits := by decide +kernel

theorem magUnits_two_pow_15 : magUnits (withSign false 0x47000000) = 2 ^ 15 * oneUnits := by decide +kernel

/-- `2^31` is a value, so no integer of 32 bits is rounded above it. -/
theorem roundMag_wide {k : Nat} (wide : k ≤ 2 ^ 31) : roundMag (k * oneUnits) 1 ≤ 0x4F000000 := by
  apply roundMag_le_of_le Nat.one_pos (by decide)
  rw [magUnits_two_pow_31, Nat.one_mul]
  exact Nat.mul_le_mul_right _ wide

theorem isFinite_u2f {p : Nat} (wide : p ≤ 2 ^ 31) : isFinite (u2f p) = true :=
  isFinite_withSign ((roundMag_wide wide).trans_lt (by decide)) _

theorem isFinite_i2f {i : Int} (wide : i.natAbs ≤ 2 ^ 31) : isFinite (i2f i) = true :=
  isFinite_withSign ((roundMag_wide wide).trans_lt (by decide)) _

theorem magUnits_u2f_le {p : Nat} (wide : p ≤ 2 ^ 31) : magUnits (u2f p) ≤ 2 ^ 31 * oneUnits := by
  rw [u2f, magUnits_roundUnits, ← magUnits_two_pow_31]
  exact magUnits_withSign_le (roundMag_wide wide) (by decide)

theorem le_magUnits_u2f {p : Nat} (loud : 2 ^ 15 ≤ p) : 2 ^ 15 * oneUnits ≤ magUnits (u2f p) := by
  have le := roundMag_le (p * oneUnits) 1
  rw [u2f, magUnits_roundUnits, ← magUnits_two_pow_15]
  refine magUnits_withSign_le (le_roundMag_of_le Nat.one_pos (by decide) ?_) (by omega)
  rw [magUnits_two_pow_15, Nat.one_mul]
  exact Nat.mul_le_mul_right _ loud

/-- A sample that the peak bounds is rounded to at most the rounded peak. -/
theorem magUnits_i2f_le_u2f {i : Int} {p : Nat} (bound : i.natAbs ≤ p) (wide : p ≤ 2 ^ 31) :
    magUnits (i2f i) ≤ magUnits (u2f p) := by
  have finite : roundMag (i.natAbs * oneUnits) 1 < 0x7F800000 :=
    (roundMag_wide (bound.trans wide)).trans_lt (by decide)
  have le := roundMag_le (p * oneUnits) 1
  rw [i2f, u2f, magUnits_roundUnits, magUnits_roundUnits]
  exact magUnits_withSign_le (roundMag_mono Nat.one_pos finite (Nat.mul_le_mul_right _ bound)) (by omega)

/-! ### The rescaled sample (R221, R222) -/

theorem magUnits_ceiling : magUnits ceiling = 32767 * oneUnits := by decide +kernel

/-- The factor of the block is a finite value, and times the rounded peak it is at most one part in `2^23` above the
ceiling. -/
theorem rescaleFactor_bound {p : Nat} (loud : 32767 < p) (wide : p ≤ 2 ^ 31) :
    isFinite (fdiv ceiling (u2f p)) = true ∧
      2 ^ 23 * (magUnits (u2f p) * magUnits (fdiv ceiling (u2f p))) ≤
        (2 ^ 23 + 1) * (32767 * oneUnits * oneUnits) := by
  have lower := le_magUnits_u2f loud
  have upper := magUnits_u2f_le wide
  have pos : 0 < magUnits (u2f p) := (Nat.mul_pos (by decide) oneUnits_pos).trans_le lower
  have normal : 2 ^ 23 * magUnits (u2f p) ≤ 32767 * oneUnits * oneUnits := by
    rw [oneUnits] at upper ⊢
    omega
  have finite : roundMag (32767 * oneUnits * oneUnits) (magUnits (u2f p)) < 0x7F800000 := by
    apply roundMag_finite pos
    rw [oneUnits] at lower ⊢
    omega
  rw [fdiv_finite (by decide) (isFinite_u2f wide) pos, magUnits_ceiling]
  exact ⟨isFinite_withSign finite _, magUnits_roundUnits_relative pos normal finite _⟩

/-- The magnitude pattern of the last value before 32768. -/
def lastInRange : Nat := 0x46FFFFFF

/-- It is one place, `2^-9`, below 32768. -/
theorem magUnits_lastInRange : magUnits (withSign false lastInRange) = (2 ^ 24 - 1) * 2 ^ 140 := by decide +kernel

/-- The product of a bounded sample and the factor: it can come out above the ceiling, but stays below 32768. -/
theorem rescaled_bound {i : Int} {p : Nat} (bound : i.natAbs ≤ p) (loud : 32767 < p) (wide : p ≤ 2 ^ 31) :
    isNaN (fmul (i2f i) (fdiv ceiling (u2f p))) = false ∧
      (units (fmul (i2f i) (fdiv ceiling (u2f p)))).natAbs < 32768 * 2 ^ 149 := by
  obtain ⟨factorFinite, factor⟩ := rescaleFactor_bound loud wide
  have sample := Nat.mul_le_mul_right (magUnits (fdiv ceiling (u2f p))) (magUnits_i2f_le_u2f bound wide)
  have pattern : roundMag (magUnits (i2f i) * magUnits (fdiv ceiling (u2f p))) oneUnits ≤ lastInRange := by
    apply roundMag_le_of_le oneUnits_pos (by decide)
    rw [magUnits_lastInRange]
    rw [oneUnits] at factor ⊢
    omega
  rw [natAbs_units, fmul_finite (isFinite_i2f (bound.trans wide)) factorFinite]
  refine ⟨isNaN_roundUnits .., ?_⟩
  rw [magUnits_roundUnits]
  refine (magUnits_withSign_le pattern (by decide)).trans_lt ?_
  rw [magUnits_lastInRange]
  decide

/-- Truncation takes off what the two roundings may have added, so the sample is at most the ceiling. -/
theorem toInt_f2i_bounds {x : F} (number : isNaN x = false) (small : (units x).natAbs < 32768 * 2 ^ 149) :
    -32767 ≤ (f2i x).toInt ∧ (f2i x).toInt ≤ 32767 := by
  have truncated : (Int.tdiv (units x) (2 ^ 149)).natAbs < 32768 := by
    rw [Int.natAbs_tdiv, Int.natAbs_pow]
    exact (Nat.div_lt_iff_lt_mul (Nat.two_pow_pos _)).mpr small
  rw [toInt_f2i number]
  omega

/-- The narrowing keeps what fits (R14). -/
theorem toInt_sat16 {w : BitVec 32} (lo : -32768 ≤ w.toInt) (hi : w.toInt ≤ 32767) : (sat16 w).toInt = w.toInt := by
  rw [sat16, if_neg (by omega), if_neg (by omega), BitVec.toInt_ofInt_eq_self (by decide) (by omega) (by omega)]

/-- Settles O43: above the ceiling the product stays below 32768 and is truncated, and at the ceiling or below the peak
itself bounds the sample. -/
theorem rescaledSamplesStayInRange : Obligations.RescaledSamplesStayInRange := by
  intro s w num bound wide x
  rw [toNat_absInt] at bound
  have range : -32767 ≤ x.toInt ∧ x.toInt ≤ 32767 := by
    by_cases loud : 32767 < s.peakacc.toNat
    · obtain ⟨number, small⟩ := rescaled_bound bound loud wide
      rw [show x = _ from if_pos loud, State.f2i_default num, State.fmul_default num, State.i2f_default num,
        State.fdiv_default num, State.u2f_default num]
      exact toInt_f2i_bounds number small
    · rw [show x = w from if_neg loud]
      omega
  exact ⟨range, toInt_sat16 (by omega) range.2, s.outSample_eq w⟩

end Sys2Proof.Machine

/-! Progress and the length of a block (R236, R238, R239, R260): with the invariant every turn gives a next state, and
the engine's turns of a block can be counted down. -/

namespace Sys2Proof.Machine

/-! ### No turn stops (R230, R260) -/

/-- With the invariant the position names a micro-operation (R35, R112). -/
theorem State.Inv.decodeUop_sidx {s : State} (inv : s.Inv) : ∃ i, decodeUop s.sidx = some i := by
  obtain ⟨-, unnamed⟩ := codesNameTheMicroOperations
  rw [← Option.ne_none_iff_exists']
  intro none
  have past := (unnamed s.sidx).mp none
  have low := inv.sidxLe
  omega

/-- A busy engine stands at a micro-operation that has all it needs: a frame of the block, cursors inside their lines,
and for NORM every frame stored. -/
theorem State.Inv.exec_runs {s : State} (inv : s.Inv) (busy : s.busy = true) :
    ∃ i t, decodeUop s.sidx = some i ∧ exec i s = .next t := by
  obtain ⟨i, named⟩ := inv.decodeUop_sidx
  have code : encodeWord i = .uop s.sidx := encodeWord_of_decodeUop named
  have frame (notNorm : s.sidx ≠ 9#4) : s.fidx.toNat < s.cfg.blockMax :=
    (inv.insideFrame busy notNorm).2.trans_le inv.nfLe
  refine ⟨i, ?_⟩
  cases i with
  | load =>
    have zero : 0#4 = s.sidx := Encoded.uop.inj code
    exact ⟨_, named, exec_load_inside (frame (by rw [← zero]; decide))⟩
  | vol => exact ⟨_, named, rfl⟩
  | echo | reverb | chorus | vibrato | tremolo | stereo => exact ⟨_, named, inv.runStage_runs⟩
  | store =>
    have eight : 8#4 = s.sidx := Encoded.uop.inj code
    exact ⟨_, named, exec_store_inside (frame (by rw [← eight]; decide))⟩
  | norm =>
    have nine : 9#4 = s.sidx := Encoded.uop.inj code
    have last : s.fidx = s.nf := by
      rcases inv.position busy with ⟨inside, -⟩ | ⟨-, last⟩
      · rw [← nine] at inside
        exact absurd inside (by decide)
      · exact last
    obtain ⟨b, block⟩ := State.outBlock?_isSome (s := s) (n := s.nf.toNat) fun k below => by
      obtain ⟨w, entry, -⟩ := inv.written busy k (last ▸ below)
      exact ⟨w, entry⟩
    exact ⟨_, named, execNorm_runs inv.nfLe block⟩
  | _ => cases code

/-- The engine's turn, idle or busy. -/
theorem State.Inv.step_engine {s : State} {rest : List Event} (inv : s.Inv) (turn : engineHasTurn s rest) :
    ∃ t, step s = .next t := by
  cases busy : s.busy with
  | false => exact ⟨_, step_engine_idle turn busy⟩
  | true =>
    obtain ⟨i, t, named, run⟩ := (inv.withEvents rest).exec_runs busy
    exact ⟨t, (step_engine_busy turn busy named).trans run⟩

/-- The step of a reset (R280). -/
theorem step_reset {s : State} {rest : List Event} (turn : s.events = .reset :: rest) :
    step s = .next (s.withEvents rest).resetNow := by
  rw [step, nextTurn, turn]

/-- Settles O11, by the next turn: a transaction answers, a reset resets, and the engine has all it needs. -/
theorem noStepStops : Obligations.NoStepStops := by
  intro s inv
  match turn : s.events with
  | [] => exact inv.step_engine (.inl ⟨turn, rfl⟩)
  | .engine :: rest => exact inv.step_engine (.inr turn)
  | .reset :: rest => exact ⟨_, step_reset turn⟩
  | .host w :: rest =>
    rw [step_host turn]
    rcases exec_transaction (isMicroOp_decodeTxn w) (s.withEvents rest) with ⟨a, d, run⟩ | ⟨a, run⟩
    · exact ⟨_, run⟩
    · exact ⟨_, run⟩

/-! ### The turns of a block, counted down (R238) -/

/-- The engine is busy, wherever it stands, and the steps to come are its own. -/
def State.Running (s : State) : Prop := s.Engaged s.sidx s.fidx s.nf

theorem State.Engaged.running {s : State} {c : UopCode} {f n : BitVec 11} (h : s.Engaged c f n) : s.Running := by
  obtain ⟨inv, busy, turns, rfl, rfl, rfl⟩ := h
  exact ⟨inv, busy, turns, rfl, rfl, rfl⟩

/-- The steps to come before NORM: nine for every frame that is left, without those already done of the frame at
hand. -/
def State.stepsLeft (s : State) : Nat := 9 * s.framesLeft - s.sidx.toNat

/-- Inside a frame at least one step is left, so without steps left the engine stands at NORM. -/
theorem State.Running.at_norm {s : State} (h : s.Running) (done : s.stepsLeft = 0) : s.sidx = 9#4 := by
  rcases h.inv.position h.busy with ⟨code, frame⟩ | ⟨norm, -⟩
  · rw [State.stepsLeft, State.framesLeft] at done
    omega
  · exact norm

/-- A step before NORM counts one down. -/
theorem State.Running.step_before_norm {s : State} (h : s.Running) (more : s.stepsLeft ≠ 0) :
    ∃ t, step s = .next t ∧ t.Running ∧ t.stepsLeft + 1 = s.stepsLeft := by
  have notNorm : s.sidx ≠ 9#4 := by
    intro norm
    rcases h.inv.position h.busy with ⟨code, -⟩ | ⟨-, last⟩
    · rw [norm] at code
      exact absurd code (by decide)
    · exact more (by rw [State.stepsLeft, State.framesLeft, last, Nat.sub_self, Nat.mul_zero, Nat.zero_sub])
  obtain ⟨code, frame⟩ := h.inv.insideFrame h.busy notNorm
  obtain ⟨i, t, named, run⟩ := h.inv.exec_runs h.busy
  rcases Nat.lt_or_eq_of_le code with low | store
  · obtain ⟨turn, next⟩ := h.advance named (Nat.le_of_lt_succ low) run
    have succ : (s.sidx + 1#4).toNat = s.sidx.toNat + 1 := by bv_omega
    refine ⟨t, turn, next.running, ?_⟩
    rw [State.stepsLeft, State.stepsLeft, State.framesLeft, State.framesLeft, next.code, next.frame, next.frames, succ]
    omega
  · have eight : s.sidx = 8#4 := BitVec.eq_of_toNat_eq store
    obtain rfl : Instr.store = i := Option.some.inj ((congrArg decodeUop eight).symm.trans named)
    obtain ⟨turn, next⟩ := h.advanceFrame eight run
    have room := s.nf.isLt
    have succ : (s.fidx + 1#11).toNat = s.fidx.toNat + 1 := toNat_next_frame (by omega)
    refine ⟨t, turn, next.running, ?_⟩
    rw [State.stepsLeft, State.stepsLeft, State.framesLeft, State.framesLeft, next.code, next.frame, next.frames,
      succ, eight]
    split_ifs with last
    · rw [← last, succ]
      simp
    · simp only [BitVec.toNat_ofNat]
      omega

/-- The engine runs on until NORM: by induction on the steps taken. -/
theorem State.Running.run_before_norm {s : State} (h : s.Running) (m : Nat) (le : m ≤ s.stepsLeft) :
    ∃ v, Host.Core.run core m s = .next v ∧ v.Running ∧ v.stepsLeft + m = s.stepsLeft := by
  induction m generalizing s with
  | zero => exact ⟨s, rfl, h, rfl⟩
  | succ m ih =>
    obtain ⟨t, first, running, one⟩ := h.step_before_norm (by omega)
    obtain ⟨v, rest, running', left⟩ := ih running (by omega)
    exact ⟨v, run_succ_next_iff.mpr ⟨t, first, rest⟩, running', by omega⟩

/-- The step of NORM ends the block (R220). -/
theorem State.Running.step_norm {s : State} (h : s.Running) (norm : s.sidx = 9#4) :
    ∃ t, step s = .next t ∧ t.busy = false ∧ t.done = true := by
  obtain ⟨t, turn⟩ := noStepStops s h.inv
  obtain ⟨-, -, -, last⟩ := sequencerMovesInItsFixedOrder s t [] (.inl h.turns) h.busy turn
  obtain ⟨-, -, idle, done⟩ := last norm
  exact ⟨t, turn, idle, done⟩

/-- START leaves nine steps for every frame before NORM (R233). -/
theorem State.stepsLeft_startBlock (s : State) : (s.startBlock.accept 0#32).stepsLeft = 9 * s.nframes.toNat := by
  rw [State.stepsLeft, State.framesLeft, State.accept_nf, State.accept_fidx, State.accept_sidx, State.startBlock_nf,
    State.startBlock_fidx, State.startBlock_sidx]
  split_ifs with none
  · rw [none]
    rfl
  · rfl

/-- Settles O14: every step before NORM counts one down from nine a frame, and the step after them is NORM. -/
theorem blockTakesNineStepsAFrameAndOneMore : Obligations.BlockTakesNineStepsAFrameAndOneMore := by
  intro s u inv idle turns start
  obtain rfl := Host.Outcome.next.inj ((exec_start_idle idle).symm.trans start)
  have running : (s.startBlock.accept 0#32).Running := (atFrame_startBlock inv turns).running
  have total := s.stepsLeft_startBlock
  refine ⟨fun m le => ?_, ?_⟩
  · obtain ⟨v, run, still, -⟩ := running.run_before_norm m (total ▸ le)
    exact ⟨v, run, still.busy⟩
  · obtain ⟨v, run, still, left⟩ := running.run_before_norm _ total.ge
    obtain ⟨t, last, finished⟩ := still.step_norm (still.at_norm (by omega))
    exact ⟨t, (run_add run).trans ((run_one (M := core) v).trans last), finished⟩

/-! ### The block as one function (R236, R239) -/

/-- Settles O15: the frames that are left are run as one function, and the step after them is NORM. -/
theorem engineStepsComputeTheBlockFunction : Obligations.EngineStepsComputeTheBlockFunction := by
  intro s inv busy code turns
  obtain ⟨-, frame⟩ := inv.insideFrame busy (by rw [code]; decide)
  have more : s.fidx ≠ s.nf := fun last => absurd frame (by rw [last]; exact Nat.lt_irrefl _)
  have start : s.AtFrame s.fidx s.nf := ⟨inv, busy, turns, by rw [code, if_neg more], rfl, rfl⟩
  obtain ⟨frames, atNorm, -⟩ := run_framesOp (P := fun _ => True) (fun _ _ _ _ => trivial) s.framesLeft start rfl
    trivial
  exact (run_add frames).trans ((run_one (M := core) _).trans (atNorm.step_eq rfl))

/-! ### The turns one by one (R236, R112, R280) -/

/-- A byte with its top four bits clear decodes as its code does (log entry 5). -/
theorem decode_codeByte : ∀ c : UopCode, (decode [0#4 ++ c]).toOption = decodeUop c := by decide

/-- Settles O6: the byte decodes to the operation that `SIDX` names. -/
theorem stepRunsTheMicroOperationOfSidx : Obligations.StepRunsTheMicroOperationOfSidx :=
  fun s _ _ turn busy decoded =>
    step_engine_busy turn busy ((decode_codeByte s.sidx).symm.trans (congrArg Except.toOption decoded))

/-- A busy engine at a position that names no operation is stuck (R112). -/
theorem step_engine_stuck {s : State} {rest : List Event} (turn : engineHasTurn s rest) (busy : s.busy = true)
    (unnamed : decodeUop s.sidx = none) : step s = .fault .sequencerStuck := by
  have stuck : engineTurn (s.withEvents rest) = .stuck := by
    rw [engineTurn, State.withEvents_busy, if_pos busy, State.withEvents_sidx, unnamed]
  rw [step, nextTurn_engine turn, stuck]

/-- Settles O7: an idle engine settles, a reset resets, and the codes from 10 up name no operation. -/
theorem idleResetAndStuckTurns : Obligations.IdleResetAndStuckTurns := by
  refine ⟨fun s rest turn idle => step_engine_idle turn idle, fun s rest turn => step_reset turn, ?_⟩
  intro s rest turn busy past
  have unnamed : decodeUop s.sidx = none := (codesNameTheMicroOperations.2 s.sidx).mpr past
  rcases turn with turn | turn
  · exact step_engine_stuck (.inl ⟨turn, rfl⟩) busy unnamed
  · exact step_engine_stuck (.inr turn) busy unnamed

/-- Settles O40: each of the six stages is off by its own bit. -/
theorem disabledStagesOnlyMoveTheSequencer : Obligations.DisabledStagesOnlyMoveTheSequencer := by
  intro i bit s stage off
  simp only [List.mem_cons, Prod.mk.injEq, List.not_mem_nil, or_false] at stage
  rcases stage with ⟨rfl, rfl⟩ | ⟨rfl, rfl⟩ | ⟨rfl, rfl⟩ | ⟨rfl, rfl⟩ | ⟨rfl, rfl⟩ | ⟨rfl, rfl⟩
  all_goals exact State.runStage_off off ..

end Sys2Proof.Machine

/-! The host port (R39, R230 to R234, R262): which address names what, the tables of the two transactions row by row,
when a transaction is refused, and what none of them changes. -/

namespace Sys2Proof.Machine

/-! ### What an address names (R39, R110) -/

/-- The address of a parameter register (R46). -/
def FloatParam.addr : FloatParam → Addr
  | .gvol => 0x010#12
  | .rvLevel => 0x011#12
  | .rvFb => 0x012#12
  | .rvDamp => 0x013#12
  | .chLevel => 0x014#12
  | .chDepth => 0x015#12
  | .chSpeed => 0x016#12
  | .stWidth => 0x017#12
  | .limThresh => 0x018#12

/-- The addresses that name nothing: the two holes of the map, and all past the entries of `BLK` (R110). -/
def IsHole (c : Cfg) (a : Addr) : Prop :=
  (0x008 ≤ a.toNat ∧ a.toNat ≤ 0x00F) ∨ (0x01A ≤ a.toNat ∧ a.toNat ≤ 0x3FF) ∨ 0x400 + c.blockMax ≤ a.toNat

/-- The map of the host space (R39). -/
inductive Names (c : Cfg) : Addr → Target → Prop where
  | cmd : Names c 0x000#12 .cmd
  | status : Names c 0x001#12 .status
  | ie : Names c 0x002#12 .ie
  | nframes : Names c 0x003#12 .nframes
  | toggle : Names c 0x004#12 .toggle
  | diag : Names c 0x005#12 .diag
  | peak : Names c 0x006#12 .peak
  | scale : Names c 0x007#12 .scale
  | param (p : FloatParam) : Names c p.addr (.param p)
  | limEn : Names c 0x019#12 .limEn
  | blk {a : Addr} (lo : 0x400 ≤ a.toNat) (hi : a.toNat < 0x400 + c.blockMax) : Names c a (.blk (a.toNat - 0x400))
  | unmapped {a : Addr} (hole : IsHole c a) : Names c a .unmapped

theorem hostTarget_hole {c : Cfg} {a : Addr} (hole : IsHole c a) : hostTarget c a = .unmapped := by
  rcases hole with ⟨lo, hi⟩ | ⟨lo, hi⟩ | past
  · exact hostTarget_lowHole lo hi
  · exact hostTarget_highHole lo hi
  · exact hostTarget_past past

/-- Every address names its target: a register by its number, the rest by their range. -/
theorem names_hostTarget (c : Cfg) (a : Addr) : Names c a (hostTarget c a) := by
  by_cases hole : IsHole c a
  · rw [hostTarget_hole hole]
    exact .unmapped hole
  by_cases window : 0x400 ≤ a.toNat
  · have inside : a.toNat < 0x400 + c.blockMax := by
      unfold IsHole at hole
      omega
    rw [hostTarget_blk window inside]
    exact .blk window inside
  · have registers : a.toNat ≤ 0x007 ∨ 0x010 ≤ a.toNat ∧ a.toNat ≤ 0x019 := by
      unfold IsHole at hole
      omega
    obtain ⟨n, small, rfl⟩ : ∃ n < 2 ^ 12, a = BitVec.ofNat 12 n := ⟨a.toNat, a.isLt, by simp⟩
    rw [BitVec.toNat_ofNat, Nat.mod_eq_of_lt small] at registers
    rcases registers with hi | ⟨lo, hi⟩
    · interval_cases n
      exacts [.cmd, .status, .ie, .nframes, .toggle, .diag, .peak, .scale]
    · interval_cases n
      exacts [.param .gvol, .param .rvLevel, .param .rvFb, .param .rvDamp, .param .chLevel, .param .chDepth,
        .param .chSpeed, .param .stWidth, .param .limThresh, .limEn]

/-! ### The rows that depend on the data or on the engine (R231) -/

section
variable (s : State)

/-- A write to `CMD`. -/
theorem State.writeTxn_cmd (d : Data) : s.writeTxn 0x000#12 d =
    if d = 1#32 then (if s.busy then s.refuse else s.startBlock.accept 0#32)
    else if d = 0#32 then s.accept 0#32 else s.refuse := rfl

/-- START on a busy engine. -/
theorem State.writeTxn_start_busy (busy : s.busy = true) : s.writeTxn 0x000#12 1#32 = s.refuse := by
  rw [State.writeTxn_cmd, if_pos rfl, if_pos busy]

/-- START on an idle engine. -/
theorem State.writeTxn_start_idle (idle : s.busy = false) :
    s.writeTxn 0x000#12 1#32 = s.startBlock.accept 0#32 := Host.Outcome.next.inj (exec_start_idle idle)

/-- A word that is no command. -/
theorem State.writeTxn_badCommand {d : Data} (bad : 2 ≤ d.toNat) : s.writeTxn 0x000#12 d = s.refuse := by
  rw [State.writeTxn_cmd, if_neg, if_neg]
  · rintro rfl
    exact absurd bad (by decide)
  · rintro rfl
    exact absurd bad (by decide)

theorem State.writeTxn_nframes_past {d : Data} (past : s.cfg.blockMax < d.toNat) :
    s.writeTxn 0x003#12 d = s.refuse := by
  rw [State.writeTxn_nframes rfl, if_neg (Nat.not_le_of_lt past)]

/-- `DONE` after a write to `STATUS`; nothing else changes. -/
theorem State.ackStatus_eq (d : Data) :
    s.ackStatus d = { s with done := if d.getLsbD 1 then false else s.done } := by
  unfold State.ackStatus
  split <;> rfl

variable {s} {a : Addr} (lo : 0x400 ≤ a.toNat) (hi : a.toNat < 0x400 + s.cfg.blockMax)
include lo hi

theorem State.writeTxn_window_idle (idle : s.busy = false) (d : Data) :
    s.writeTxn a d = (s.setFrame (a.toNat - 0x400) d).accept 0#32 := by
  rw [State.writeTxn_blk (hostTarget_blk lo hi), if_neg (by simp [idle])]

theorem State.writeTxn_window_busy (busy : s.busy = true) (d : Data) : s.writeTxn a d = s.refuse := by
  rw [State.writeTxn_blk (hostTarget_blk lo hi), if_pos busy]

theorem State.readTxn_window_idle (idle : s.busy = false) :
    s.readTxn a = s.accept (s.frame (a.toNat - 0x400)) := by
  rw [State.readTxn_blk (hostTarget_blk lo hi), if_neg (by simp [idle])]

theorem State.readTxn_window_busy (busy : s.busy = true) : s.readTxn a = s.refuse := by
  rw [State.readTxn_blk (hostTarget_blk lo hi), if_pos busy]

end

theorem State.writeTxn_hole {s : State} {a : Addr} (hole : IsHole s.cfg a) (d : Data) : s.writeTxn a d = s.refuse :=
  State.writeTxn_unmapped (hostTarget_hole hole) d

theorem State.readTxn_hole {s : State} {a : Addr} (hole : IsHole s.cfg a) : s.readTxn a = s.refuse :=
  State.readTxn_unmapped (hostTarget_hole hole)

/-! ### The tables (R231, R232, R233) -/

/-- Settles O19: START latches the block and is answered. -/
theorem startLatchesTheBlockAndSetsBusy : Obligations.StartLatchesTheBlockAndSetsBusy :=
  fun _ idle => exec_start_idle idle

/-- Settles O20: a register by its address, the rows with a condition by their lemma. -/
theorem writeTransactionsFollowTheTable : Obligations.WriteTransactionsFollowTheTable := by
  intro s a d ok refused unchanged run
  have row {u : State} (h : s.writeTxn a d = u) : run = .next u := congrArg _ h
  have register {b : Addr} {u : State} (h : s.writeTxn b d = u) (at_b : a = b) : run = .next u :=
    row (at_b ▸ h)
  have param (p : FloatParam) {b : Addr} (h : hostTarget s.cfg b = .param p) (at_b : a = b) :
      run = .next { s with params := s.params.put d p, answer := ok } :=
    register (State.writeTxn_param h d) at_b
  have status : s.writeTxn 0x001#12 d = { s with done := if d.getLsbD 1 then false else s.done, answer := ok } :=
    congrArg (State.accept · 0#32) (s.ackStatus_eq d)
  refine ⟨?start, ?startBusy, ?noCommand, fun h bad => register (s.writeTxn_badCommand bad) h, register status,
    register rfl, ?nframes, fun h past => register (s.writeTxn_nframes_past past) h, register rfl, register rfl,
    ?readOnly, param .gvol rfl, param .rvLevel rfl, param .rvFb rfl, param .rvDamp rfl, param .chLevel rfl,
    param .chDepth rfl, param .chSpeed rfl, param .stWidth rfl, param .limThresh rfl, register rfl,
    fun lo hi idle => row (State.writeTxn_window_idle lo hi idle d),
    fun lo hi busy => row (State.writeTxn_window_busy lo hi busy d),
    fun lo hi => row (State.writeTxn_hole (.inl ⟨lo, hi⟩) d),
    fun lo hi => row (State.writeTxn_hole (.inr (.inl ⟨lo, hi⟩)) d),
    fun past => row (State.writeTxn_hole (.inr (.inr past)) d)⟩
  case start =>
    rintro h rfl idle
    exact register (s.writeTxn_start_idle idle) h
  case startBusy =>
    rintro h rfl busy
    exact register (s.writeTxn_start_busy busy) h
  case noCommand =>
    rintro h rfl
    exact register rfl h
  case nframes =>
    intro h le
    exact register ((State.writeTxn_nframes rfl d).trans (if_pos le)) h
  case readOnly =>
    rintro (h | h)
    · exact register rfl h
    · exact register rfl h

/-- Settles O21: a register by its address, the window and the holes by their lemma. -/
theorem readTransactionsFollowTheTable : Obligations.ReadTransactionsFollowTheTable := by
  intro s a answers refused run
  have row {u : State} (h : s.readTxn a = u) : run = .next u := congrArg _ h
  have register {b : Addr} {v : Data} (h : s.readTxn b = s.accept v) (at_b : a = b) : run = answers v :=
    row (at_b ▸ h)
  have param (p : FloatParam) {b : Addr} (h : hostTarget s.cfg b = .param p) (at_b : a = b) :
      run = answers (s.params.get p) :=
    register (State.readTxn_param h) at_b
  exact ⟨register rfl, register rfl, register rfl, register rfl, register rfl, register rfl, register rfl,
    register rfl, param .gvol rfl, param .rvLevel rfl, param .rvFb rfl, param .rvDamp rfl, param .chLevel rfl,
    param .chDepth rfl, param .chSpeed rfl, param .stWidth rfl, param .limThresh rfl, register rfl,
    fun lo hi idle => row (State.readTxn_window_idle lo hi idle),
    fun lo hi busy => row (State.readTxn_window_busy lo hi busy),
    fun lo hi => row (State.readTxn_hole (.inl ⟨lo, hi⟩)),
    fun lo hi => row (State.readTxn_hole (.inr (.inl ⟨lo, hi⟩))),
    fun past => row (State.readTxn_hole (.inr (.inr past)))⟩

/-! ### When a transaction is refused (R262) -/

theorem State.accept_ne_refuse {u s : State} {v : Data} : u.accept v ≠ s.refuse :=
  fun same => absurd (congrArg State.answer same) (by simp)

/-- The address names an entry of `BLK`, and the engine is busy (R54). -/
def State.BlkClosed (s : State) (a : Addr) : Prop :=
  0x400 ≤ a.toNat ∧ a.toNat < 0x400 + s.cfg.blockMax ∧ s.busy = true

theorem State.readTxn_eq_refuse_iff (s : State) (a : Addr) :
    s.readTxn a = s.refuse ↔ IsHole s.cfg a ∨ s.BlkClosed a := by
  constructor
  · intro refused
    have names := names_hostTarget s.cfg a
    unfold State.readTxn at refused
    generalize hostTarget s.cfg a = target at names refused
    cases names with
    | unmapped hole => exact .inl hole
    | blk lo hi =>
      dsimp only at refused
      split_ifs at refused with busy
      · exact .inr ⟨lo, hi, busy⟩
      · exact absurd refused State.accept_ne_refuse
    | _ => exact absurd refused State.accept_ne_refuse
  · rintro (hole | ⟨lo, hi, busy⟩)
    · exact State.readTxn_hole hole
    · exact State.readTxn_window_busy lo hi busy

/-- The three causes that only a write has: START while busy, no command, too many frames. -/
def State.BadWrite (s : State) (a : Addr) (d : Data) : Prop :=
  (a = 0x000#12 ∧ d = 1#32 ∧ s.busy = true) ∨ (a = 0x000#12 ∧ 2 ≤ d.toNat) ∨
    (a = 0x003#12 ∧ s.cfg.blockMax < d.toNat)

theorem State.writeTxn_eq_refuse_iff (s : State) (a : Addr) (d : Data) :
    s.writeTxn a d = s.refuse ↔ IsHole s.cfg a ∨ s.BlkClosed a ∨ s.BadWrite a d := by
  constructor
  · intro refused
    have names := names_hostTarget s.cfg a
    unfold State.writeTxn at refused
    generalize hostTarget s.cfg a = target at names refused
    cases names with
    | unmapped hole => exact .inl hole
    | blk lo hi =>
      dsimp only at refused
      split_ifs at refused with busy
      · exact .inr (.inl ⟨lo, hi, busy⟩)
      · exact absurd refused State.accept_ne_refuse
    | cmd =>
      dsimp only at refused
      split_ifs at refused with start busy nop
      · exact .inr (.inr (.inl ⟨rfl, start, busy⟩))
      · exact absurd refused State.accept_ne_refuse
      · exact absurd refused State.accept_ne_refuse
      · exact .inr (.inr (.inr (.inl ⟨rfl, by bv_omega⟩)))
    | nframes =>
      dsimp only at refused
      split_ifs at refused with le
      · exact absurd refused State.accept_ne_refuse
      · exact .inr (.inr (.inr (.inr ⟨rfl, Nat.lt_of_not_le le⟩)))
    | _ => exact absurd refused State.accept_ne_refuse
  · rintro (hole | ⟨lo, hi, busy⟩ | ⟨rfl, rfl, busy⟩ | ⟨rfl, bad⟩ | ⟨rfl, past⟩)
    · exact State.writeTxn_hole hole d
    · exact State.writeTxn_window_busy lo hi busy d
    · exact s.writeTxn_start_busy busy
    · exact s.writeTxn_badCommand bad
    · exact s.writeTxn_nframes_past past

/-- A transaction that is refused or answered has `err = 1` exactly when it is refused. -/
theorem err_iff_refused {s t : State} (answered : t = s.refuse ∨ ∃ (u : State) (v : Data), t = u.accept v) :
    (∃ v, t.answer = some ⟨true, v⟩) ↔ t = s.refuse := by
  constructor
  · rintro ⟨v, err⟩
    rcases answered with refused | ⟨u, r, rfl⟩
    · exact refused
    · simp at err
  · rintro rfl
    exact ⟨0#32, rfl⟩

theorem State.writeTxn_err_iff (s : State) (a : Addr) (d : Data) :
    (∃ v, (s.writeTxn a d).answer = some ⟨true, v⟩) ↔ s.writeTxn a d = s.refuse :=
  err_iff_refused ((s.writeTxn_cases a d).imp_right fun ⟨u, _, e⟩ => ⟨u, _, e⟩)

theorem State.readTxn_err_iff (s : State) (a : Addr) :
    (∃ v, (s.readTxn a).answer = some ⟨true, v⟩) ↔ s.readTxn a = s.refuse :=
  err_iff_refused ((s.readTxn_cases a).imp_right fun ⟨v, e⟩ => ⟨s, v, e⟩)

/-- Settles O27: `err = 1` tells a refusal, and a refusal has its causes. -/
theorem refusalHasExactlyFiveCauses : Obligations.RefusalHasExactlyFiveCauses := by
  intro s t a d
  refine ⟨fun run => ?_, fun run => ?_⟩
  · obtain rfl := Host.Outcome.next.inj run
    have err := s.writeTxn_err_iff a d
    exact ⟨err.trans (s.writeTxn_eq_refuse_iff a d), err.mp⟩
  · obtain rfl := Host.Outcome.next.inj run
    have err := s.readTxn_err_iff a
    exact ⟨err.trans (s.readTxn_eq_refuse_iff a), err.mp⟩

/-! ### What no transaction changes (R34, R230) -/

/-- What START moves: `BUSY`, the position, the number of frames and the peak so far (R233). -/
def State.sequencer (s : State) : Bool × UopCode × BitVec 11 × BitVec 11 × BitVec 32 :=
  (s.busy, s.sidx, s.fidx, s.nf, s.peakacc)

/-- Everything else of the engine is as it was, and no bit of `DIAG` is set. -/
structure EngineKept (s t : State) : Prop where
  latches : t.inL = s.inL ∧ t.inR = s.inR ∧ t.accL = s.accL ∧ t.accR = s.accR ∧ t.dry = s.dry
  memories : t.cur = s.cur ∧ t.ph = s.ph ∧ t.dl = s.dl ∧ t.wbuf = s.wbuf
  report : t.peak = s.peak ∧ t.scale = s.scale ∧ t.normed = s.normed
  flags : t.diag &&& ~~~s.diag = 0#7
  surroundings : t.cfg = s.cfg ∧ t.events = s.events

/-- Nothing has changed. -/
theorem engineKept_refl (s : State) : EngineKept s s :=
  ⟨⟨rfl, rfl, rfl, rfl, rfl⟩, ⟨rfl, rfl, rfl, rfl⟩, ⟨rfl, rfl, rfl⟩, BitVec.and_not_self _, ⟨rfl, rfl⟩⟩

/-- The answer is no part of the engine. -/
theorem EngineKept.accept {s t : State} (h : EngineKept s t) (v : Data) : EngineKept s (t.accept v) := { h with }

theorem engineKept_refuse (s : State) : EngineKept s s.refuse := { engineKept_refl s with }

theorem WriteEffect.engineKept {s u : State} {a : Addr} {d : Data} (effect : WriteEffect s a d u) :
    EngineKept s u := by
  cases effect with
  | status =>
    rw [State.ackStatus_eq]
    exact { engineKept_refl s with }
  | diag =>
    refine { engineKept_refl s with flags := ?_ }
    rw [State.clearDiag_diag, BitVec.and_assoc, BitVec.and_comm (~~~_), ← BitVec.and_assoc, BitVec.and_not_self]
    exact BitVec.zero_and
  | _ => exact { engineKept_refl s with }

theorem State.writeTxn_engineKept (s : State) (a : Addr) (d : Data) : EngineKept s (s.writeTxn a d) := by
  rcases s.writeTxn_cases a d with e | ⟨u, effect, e⟩
  · rw [e]
    exact engineKept_refuse s
  · rw [e]
    exact effect.engineKept.accept 0#32

theorem State.readTxn_engineKept (s : State) (a : Addr) : EngineKept s (s.readTxn a) := by
  rcases s.readTxn_cases a with e | ⟨v, e⟩
  · rw [e]
    exact engineKept_refuse s
  · rw [e]
    exact (engineKept_refl s).accept v

/-- A read leaves the sequencer where it is. -/
theorem State.readTxn_sequencer (s : State) (a : Addr) : (s.readTxn a).sequencer = s.sequencer := by
  rcases s.readTxn_cases a with e | ⟨v, e⟩
  · rw [e]
    rfl
  · rw [e]
    rfl

/-- So does every write but START. -/
theorem State.writeTxn_sequencer {s : State} {a : Addr} {d : Data} (notStart : ¬ (a = 0x000#12 ∧ d = 1#32)) :
    (s.writeTxn a d).sequencer = s.sequencer := by
  have names := names_hostTarget s.cfg a
  unfold State.writeTxn
  generalize hostTarget s.cfg a = target at names
  cases names with
  | cmd =>
    dsimp only
    rw [if_neg fun start => notStart ⟨rfl, start⟩]
    split_ifs <;> rfl
  | status =>
    rw [State.ackStatus_eq]
    rfl
  | nframes | blk =>
    dsimp only
    split_ifs <;> rfl
  | _ => rfl

/-- An operation that is no micro-operation is the transaction its word stands for (R117). -/
theorem exec_encoded_transaction {i : Instr} (txn : isMicroOp i = false) (s : State) :
    (∃ a d, encodeWord i = .txn (writeWord a d) ∧ exec i s = .next (s.writeTxn a d)) ∨
      ∃ a, exec i s = .next (s.readTxn a) := by
  cases i with
  | rd | rdf | rds => exact .inr ⟨_, rfl⟩
  | load | vol | echo | reverb | chorus | vibrato | tremolo | stereo | store | norm => cases txn
  | _ => exact .inl ⟨_, _, rfl, rfl⟩

/-- Settles O28: no effect of a write names the engine but START's, and START has its own word. -/
theorem transactionsLeaveTheEngineAlone : Obligations.TransactionsLeaveTheEngineAlone := by
  intro i s t txn run
  have kept : EngineKept s t ∧
      (encodeWord i ≠ .txn (writeWord 0x000#12 1#32) → t.sequencer = s.sequencer) := by
    rcases exec_encoded_transaction txn s with ⟨a, d, word, e⟩ | ⟨a, e⟩
    · obtain rfl := Host.Outcome.next.inj (e.symm.trans run)
      refine ⟨s.writeTxn_engineKept a d, fun other => State.writeTxn_sequencer ?_⟩
      rintro ⟨rfl, rfl⟩
      exact other word
    · obtain rfl := Host.Outcome.next.inj (e.symm.trans run)
      exact ⟨s.readTxn_engineKept a, fun _ => s.readTxn_sequencer a⟩
  obtain ⟨engine, still⟩ := kept
  obtain ⟨inL, inR, accL, accR, dry⟩ := engine.latches
  obtain ⟨cur, ph, dl, wbuf⟩ := engine.memories
  obtain ⟨peak, scale, normed⟩ := engine.report
  obtain ⟨cfg, events⟩ := engine.surroundings
  refine ⟨inL, inR, accL, accR, dry, cur, ph, dl, wbuf, peak, scale, normed, engine.flags, cfg, events, fun other => ?_⟩
  have same := still other
  simp only [State.sequencer, Prod.mk.injEq] at same
  exact same

end Sys2Proof.Machine
